-- ==== Sys2Proof/Word.lean ====
section
/-! DEFINITION. The two word widths of the hardware: 8-bit registers and memory bytes, 16-bit addresses (spec/00_scope.md R4, R5). -/

namespace Sys2Proof

/-- A `u8`: a register, the flags byte, a memory byte, a port number (R4, R5). -/
abbrev Byte := BitVec 8

/-- A `u16`: PC, SP, a register pair, a memory address (R4, R5). -/
abbrev Word := BitVec 16

end Sys2Proof
end

