-- ==== Sys2Proof/Config.lean ====
section
/-! DEFINITION. What is fixed for one machine: the size of memory, the shape of the configuration the host sets before a run
(spec/10_state.md R22), what an input handler may answer (spec/20_memory.md R53, R54), and the free values, which have no body. -/

namespace Sys2Proof

/-- `MEM_SIZE`, the number of bytes of memory (00_scope.md R4, 20_memory.md R40). -/
def memSize : Nat := 0x10000

/-- What an input handler answers: a byte, or `NO_DATA`, which is distinct from every byte (20_memory.md R53, R57). -/
inductive InAnswer
  | byte (v : Byte)
  | noData
  deriving DecidableEq, Repr, Inhabited

/-- An inclusive range of addresses, `first ≤ a ≤ last`. -/
structure AddrRange where
  first : Word
  last : Word
  deriving DecidableEq, Repr

/-- One `(start, end, device)` triple of the registry `MMIO` (20_memory.md R48); `device` is the number the host knows the
device by (log 15). -/
structure MmioRange where
  first : Word
  last : Word
  device : Nat
  deriving DecidableEq, Repr

/-- One entry of a port map: the handler registered for a port number (20_memory.md R52); `handler` is the number the host
knows the handler by (log 15). -/
structure PortEntry where
  port : Byte
  handler : Nat
  deriving DecidableEq, Repr

/-- The configuration state of 10_state.md R22, set by the host and constant during a run. -/
structure HostConfig where
  /-- `ROM_BOUNDARY`, 0 to 0x10000 (00_scope.md R4, 20_memory.md R47). -/
  romBoundary : Nat
  /-- `MMIO` (20_memory.md R48). -/
  mmio : List MmioRange
  /-- `IN_DEV` (20_memory.md R52). -/
  inDev : List PortEntry
  /-- `OUT_DEV` (20_memory.md R52). -/
  outDev : List PortEntry
  /-- `STACK_CHECK` (00_scope.md R4). -/
  stackCheck : Bool
  /-- The addresses for which `StackValid` holds (00_scope.md R4, 92_eei_decisions.md D21; log 7). -/
  stackValid : List AddrRange
  /-- `WATCH` (60_exceptions.md R262). -/
  watch : List Word
  /-- The trace sink, if the host enabled one (60_exceptions.md R259); the number the host knows the sink by (log 15, log 18). -/
  traceSink : Option Nat
  deriving DecidableEq, Repr

/-- FREE VALUE. The byte a POP receives when its load stack-faults: "an unspecified byte"
(43_family11_control_stack.md R191, 93_implementation_defined.md U10; log 6). -/
opaque Config.freeByte : Nat → Byte

/-- FREE VALUE. What an input handler answers once the answers listed in the state are used up: "any `u8` or `NO_DATA`, chosen
by the environment at each call" (20_memory.md R54; log 5, log 6). -/
opaque Config.freeAnswer : Nat → InAnswer

end Sys2Proof
end

