-- ==== Sys2Proof/Syntax.lean ====
section
/-! DEFINITION. The instructions as syntax: one constructor of `Instr` for each row of spec/opcode_table.json, its operands
already read out of the encoding (spec/30_encoding.md R70 to R78). -/

namespace Sys2Proof

/-- The seven general registers (10_state.md R10). -/
inductive Reg
  | b | c | d | e | h | l | a
  deriving DecidableEq, Repr

/-- A 3-bit operand selector: a register, or `m`, the memory byte at HL (30_encoding.md R72). -/
inductive Sel
  | reg (r : Reg)
  | m
  deriving DecidableEq, Repr

/-- The pair field of LXI, DAD, INX and DCX (42_family00.md R150). -/
inductive Pair
  | bc | de | hl | sp
  deriving DecidableEq, Repr

/-- The address pair of STAX and LDAX: only BC and DE exist (42_family00.md R154, R155). -/
inductive IndexPair
  | bc | de
  deriving DecidableEq, Repr

/-- The instructions (30_encoding.md R76) and the 14 first bytes that are none (R77). -/
inductive Instr
  -- family 00 (42_family00.md)
  | nop
  | lxi (p : Pair) (d16 : Word)
  | dad (p : Pair)
  | stax (p : IndexPair)
  | ldax (p : IndexPair)
  | shld (a16 : Word)
  | lhld (a16 : Word)
  | sta (a16 : Word)
  | lda (a16 : Word)
  | inx (p : Pair)
  | dcx (p : Pair)
  | inr (o : Sel)
  | dcr (o : Sel)
  | mvi (o : Sel) (d8 : Byte)
  | rlc
  | rrc
  | ral
  | rar
  | daa
  | cma
  | stc
  | cmc
  -- family 01 (41_family01_mov_hlt.md)
  | mov (dst src : Sel)
  | hlt
  -- family 10 (40_flags_alu.md)
  | add (o : Sel)
  | adc (o : Sel)
  | sub (o : Sel)
  | sbb (o : Sel)
  | ana (o : Sel)
  | xra (o : Sel)
  | ora (o : Sel)
  | cmp (o : Sel)
  -- family 11: conditional returns, jumps, calls (43_family11_control_stack.md)
  | rnz
  | rz
  | rnc
  | rc
  | rpo
  | rpe
  | rp
  | rm
  | jnz (a16 : Word)
  | jz (a16 : Word)
  | jnc (a16 : Word)
  | jc (a16 : Word)
  | jpo (a16 : Word)
  | jpe (a16 : Word)
  | jp (a16 : Word)
  | jm (a16 : Word)
  | cnz (a16 : Word)
  | cz (a16 : Word)
  | cnc (a16 : Word)
  | cc (a16 : Word)
  | cpo (a16 : Word)
  | cpe (a16 : Word)
  | cp (a16 : Word)
  | cm (a16 : Word)
  -- family 11: the unconditional transfers
  | jmp (a16 : Word)
  | call (a16 : Word)
  | ret
  | rst (n : BitVec 3)
  | pchl
  -- family 11: the stack and the exchanges
  | popB
  | popD
  | popH
  | popPsw
  | pushB
  | pushD
  | pushH
  | pushPsw
  | xthl
  | sphl
  | xchg
  -- family 11: the immediate ALU forms (40_flags_alu.md)
  | adi (d8 : Byte)
  | aci (d8 : Byte)
  | sui (d8 : Byte)
  | sbi (d8 : Byte)
  | ani (d8 : Byte)
  | xri (d8 : Byte)
  | ori (d8 : Byte)
  | cpi (d8 : Byte)
  -- family 11: ports (44_io.md)
  | inPort (p8 : Byte)
  | outPort (p8 : Byte)
  -- the unmatched first bytes (30_encoding.md R77)
  | unmatched08
  | unmatched10
  | unmatched18
  | unmatched20
  | unmatched28
  | unmatched30
  | unmatched38
  | unmatchedCB
  | unmatchedD9
  | unmatchedDD
  | unmatchedED
  | unmatchedFD
  | unmatchedF3
  | unmatchedFB
  deriving DecidableEq, Repr

end Sys2Proof
end

