-- ==== Sys2Proof/WellFormed.lean ====
section
/-! DEFINITION. The one check the syntax needs: `MOV M,M` does not exist, its slot of the opcode map is HLT
(spec/41_family01_mov_hlt.md R142, spec/30_encoding.md R75). Every other bound is in the operand types. -/

namespace Sys2Proof

/-- Whether the hardware has this instruction: all but `MOV M,M` (41_family01_mov_hlt.md R142). -/
def Instr.wellFormed : Instr → Bool
  | .mov dst src => !(dst == .m && src == .m)
  | .nop | .lxi _ _ | .dad _ | .stax _ | .ldax _ | .shld _ | .lhld _ | .sta _ | .lda _ | .inx _ | .dcx _ | .inr _ | .dcr _
  | .mvi _ _ | .rlc | .rrc | .ral | .rar | .daa | .cma | .stc | .cmc | .hlt
  | .add _ | .adc _ | .sub _ | .sbb _ | .ana _ | .xra _ | .ora _ | .cmp _
  | .rnz | .rz | .rnc | .rc | .rpo | .rpe | .rp | .rm
  | .jnz _ | .jz _ | .jnc _ | .jc _ | .jpo _ | .jpe _ | .jp _ | .jm _
  | .cnz _ | .cz _ | .cnc _ | .cc _ | .cpo _ | .cpe _ | .cp _ | .cm _
  | .jmp _ | .call _ | .ret | .rst _ | .pchl
  | .popB | .popD | .popH | .popPsw | .pushB | .pushD | .pushH | .pushPsw | .xthl | .sphl | .xchg
  | .adi _ | .aci _ | .sui _ | .sbi _ | .ani _ | .xri _ | .ori _ | .cpi _ | .inPort _ | .outPort _
  | .unmatched08 | .unmatched10 | .unmatched18 | .unmatched20 | .unmatched28 | .unmatched30 | .unmatched38
  | .unmatchedCB | .unmatchedD9 | .unmatchedDD | .unmatchedED | .unmatchedFD | .unmatchedF3 | .unmatchedFB => true

end Sys2Proof
end

