-- ==== Sys2Proof/Decode.lean ====
section
/-! DEFINITION. The byte-order helpers, the decoder (total on every first byte, spec/30_encoding.md R74 to R78), and after it
the encoder written from the patterns of R76. The opcode numbers are the spec's (log 9). -/

namespace Sys2Proof

/-! ## Byte order and bit fields (00_scope.md R5) -/

/-- `hi8(w) = w div 256`. -/
def hi8 (w : Word) : Byte := w.extractLsb' 8 8

/-- `lo8(w) = w mod 256`. -/
def lo8 (w : Word) : Byte := w.extractLsb' 0 8

/-- `hi:lo`, the 16-bit value with these two bytes. -/
def wordOf (hi lo : Byte) : Word := hi ++ lo

/-- The number in `width` bits of a byte from bit `lo` up. -/
def field (b : Byte) (lo width : Nat) : Nat := (b.extractLsb' lo width).toNat

/-! ## Field values (30_encoding.md R72) -/

/-- The register or memory operand a selector value names. -/
def selOf (n : Nat) : Sel :=
  match n with
  | 0 => .reg .b
  | 1 => .reg .c
  | 2 => .reg .d
  | 3 => .reg .e
  | 4 => .reg .h
  | 5 => .reg .l
  | 6 => .m
  | _ => .reg .a

/-- The pair a pair field names in LXI, DAD, INX, DCX. -/
def pairOf (n : Nat) : Pair :=
  match n with
  | 0 => .bc
  | 1 => .de
  | 2 => .hl
  | _ => .sp

/-! ## Decoding by family (30_encoding.md R75) -/

/-- Family 00, dispatched by `sss` and then `ddd`. -/
def decodeFamily00 (ddd sss : Nat) (d8 : Byte) (d16 : Word) : Instr :=
  match sss with
  | 0 =>
    match ddd with
    | 0 => .nop
    | 1 => .unmatched08
    | 2 => .unmatched10
    | 3 => .unmatched18
    | 4 => .unmatched20
    | 5 => .unmatched28
    | 6 => .unmatched30
    | _ => .unmatched38
  | 1 => if ddd % 2 = 0 then .lxi (pairOf (ddd / 2)) d16 else .dad (pairOf (ddd / 2))
  | 2 =>
    match ddd with
    | 0 => .stax .bc
    | 1 => .ldax .bc
    | 2 => .stax .de
    | 3 => .ldax .de
    | 4 => .shld d16
    | 5 => .lhld d16
    | 6 => .sta d16
    | _ => .lda d16
  | 3 => if ddd % 2 = 0 then .inx (pairOf (ddd / 2)) else .dcx (pairOf (ddd / 2))
  | 4 => .inr (selOf ddd)
  | 5 => .dcr (selOf ddd)
  | 6 => .mvi (selOf ddd) d8
  | _ =>
    match ddd with
    | 0 => .rlc
    | 1 => .rrc
    | 2 => .ral
    | 3 => .rar
    | 4 => .daa
    | 5 => .cma
    | 6 => .stc
    | _ => .cmc

/-- Family 01: MOV, but for the one code that is HLT. -/
def decodeFamily01 (ddd sss : Nat) : Instr :=
  if ddd = 6 ∧ sss = 6 then .hlt else .mov (selOf ddd) (selOf sss)

/-- Family 10: the ALU operation numbered `ooo` with operand `sss` (90_conflicts.md C1). -/
def decodeFamily10 (ooo sss : Nat) : Instr :=
  match ooo with
  | 0 => .add (selOf sss)
  | 1 => .adc (selOf sss)
  | 2 => .sub (selOf sss)
  | 3 => .sbb (selOf sss)
  | 4 => .ana (selOf sss)
  | 5 => .xra (selOf sss)
  | 6 => .ora (selOf sss)
  | _ => .cmp (selOf sss)

/-- Family 11, dispatched by `sss` and then `ddd` (`ccc`, `nnn`, or `pp` and `q`). -/
def decodeFamily11 (ddd sss : Nat) (d8 : Byte) (a16 : Word) : Instr :=
  match sss with
  | 0 =>
    match ddd with
    | 0 => .rnz
    | 1 => .rz
    | 2 => .rnc
    | 3 => .rc
    | 4 => .rpo
    | 5 => .rpe
    | 6 => .rp
    | _ => .rm
  | 1 =>
    match ddd with
    | 0 => .popB
    | 1 => .ret
    | 2 => .popD
    | 3 => .unmatchedD9
    | 4 => .popH
    | 5 => .pchl
    | 6 => .popPsw
    | _ => .sphl
  | 2 =>
    match ddd with
    | 0 => .jnz a16
    | 1 => .jz a16
    | 2 => .jnc a16
    | 3 => .jc a16
    | 4 => .jpo a16
    | 5 => .jpe a16
    | 6 => .jp a16
    | _ => .jm a16
  | 3 =>
    match ddd with
    | 0 => .jmp a16
    | 1 => .unmatchedCB
    | 2 => .outPort d8
    | 3 => .inPort d8
    | 4 => .xthl
    | 5 => .xchg
    | 6 => .unmatchedF3
    | _ => .unmatchedFB
  | 4 =>
    match ddd with
    | 0 => .cnz a16
    | 1 => .cz a16
    | 2 => .cnc a16
    | 3 => .cc a16
    | 4 => .cpo a16
    | 5 => .cpe a16
    | 6 => .cp a16
    | _ => .cm a16
  | 5 =>
    match ddd with
    | 0 => .pushB
    | 1 => .call a16
    | 2 => .pushD
    | 3 => .unmatchedDD
    | 4 => .pushH
    | 5 => .unmatchedED
    | 6 => .pushPsw
    | _ => .unmatchedFD
  | 6 =>
    match ddd with
    | 0 => .adi d8
    | 1 => .aci d8
    | 2 => .sui d8
    | 3 => .sbi d8
    | 4 => .ani d8
    | 5 => .xri d8
    | 6 => .ori d8
    | _ => .cpi d8
  | _ => .rst (BitVec.ofNat 3 ddd)

/-- The instruction whose first byte is `b0`, with `b1` and `b2` the bytes after it; a byte past the instruction's length
changes nothing. Total: an unmatched first byte is rejected by its own constructor (30_encoding.md R74, R77). -/
def decode (b0 b1 b2 : Byte) : Instr :=
  match field b0 6 2 with
  | 0 => decodeFamily00 (field b0 3 3) (field b0 0 3) b1 (wordOf b2 b1)
  | 1 => decodeFamily01 (field b0 3 3) (field b0 0 3)
  | 2 => decodeFamily10 (field b0 3 3) (field b0 0 3)
  | _ => decodeFamily11 (field b0 3 3) (field b0 0 3) b1 (wordOf b2 b1)

/-- The number of bytes of an instruction; an unmatched byte counts as one (30_encoding.md R70, R78). -/
def Instr.length : Instr → Nat
  | .lxi _ _ | .shld _ | .lhld _ | .sta _ | .lda _
  | .jnz _ | .jz _ | .jnc _ | .jc _ | .jpo _ | .jpe _ | .jp _ | .jm _
  | .cnz _ | .cz _ | .cnc _ | .cc _ | .cpo _ | .cpe _ | .cp _ | .cm _ | .jmp _ | .call _ => 3
  | .mvi _ _ | .adi _ | .aci _ | .sui _ | .sbi _ | .ani _ | .xri _ | .ori _ | .cpi _ | .inPort _ | .outPort _ => 2
  | .nop | .dad _ | .stax _ | .ldax _ | .inx _ | .dcx _ | .inr _ | .dcr _
  | .rlc | .rrc | .ral | .rar | .daa | .cma | .stc | .cmc | .mov _ _ | .hlt
  | .add _ | .adc _ | .sub _ | .sbb _ | .ana _ | .xra _ | .ora _ | .cmp _
  | .rnz | .rz | .rnc | .rc | .rpo | .rpe | .rp | .rm | .ret | .rst _ | .pchl
  | .popB | .popD | .popH | .popPsw | .pushB | .pushD | .pushH | .pushPsw | .xthl | .sphl | .xchg
  | .unmatched08 | .unmatched10 | .unmatched18 | .unmatched20 | .unmatched28 | .unmatched30 | .unmatched38
  | .unmatchedCB | .unmatchedD9 | .unmatchedDD | .unmatchedED | .unmatchedFD | .unmatchedF3 | .unmatchedFB => 1

/-- Why a list of bytes is no instruction: it ends before the instruction does. -/
inductive DecodeError
  | truncated (needed given : Nat)
  deriving DecidableEq, Repr

/-- The first instruction of a list of bytes and the bytes after it; a list that ends too soon is rejected by name. -/
def decodeBytes (bytes : List Byte) : Except DecodeError (Instr × List Byte) :=
  let i := decode (bytes.getD 0 0) (bytes.getD 1 0) (bytes.getD 2 0)
  if bytes = [] then .error (.truncated 1 0)
  else if bytes.length < i.length then .error (.truncated i.length bytes.length)
  else .ok (i, bytes.drop i.length)

/-- Byte `k` of an instruction of `nbits` bits given as one number, its first byte in the low bits; 0 above `nbits`. -/
def tableByte (nbits w k : Nat) : Byte := BitVec.ofNat 8 (w % 2 ^ nbits / 256 ^ k)

/-- What the decoder reads from an opcode-table word whose operand bytes above `nbits` are 0. -/
def decodeTableWord (nbits w : Nat) : Option Instr :=
  match decodeBytes [tableByte nbits w 0, tableByte nbits w 1, tableByte nbits w 2] with
  | .ok (i, _) => some i
  | .error _ => none

/-! ## The encoder (the patterns of 30_encoding.md R76) -/

/-- An opcode byte from its family, middle and low fields (30_encoding.md R71). -/
def opByte (fam : BitVec 2) (ddd sss : BitVec 3) : Byte := fam ++ ddd ++ sss

/-- A middle field made of a pair field and the bit `q` (30_encoding.md R71). -/
def ppq (pp : BitVec 2) (q : BitVec 1) : BitVec 3 := pp ++ q

/-- The selector value of an operand (30_encoding.md R72). -/
def selNum : Sel → BitVec 3
  | .reg .b => 0
  | .reg .c => 1
  | .reg .d => 2
  | .reg .e => 3
  | .reg .h => 4
  | .reg .l => 5
  | .m => 6
  | .reg .a => 7

/-- The pair field of a pair (30_encoding.md R72). -/
def pairNum : Pair → BitVec 2
  | .bc => 0
  | .de => 1
  | .hl => 2
  | .sp => 3

/-- The pair field of the address pair of STAX and LDAX (30_encoding.md R72). -/
def indexNum : IndexPair → BitVec 2
  | .bc => 0
  | .de => 1

/-- Format OP_D16 or OP_A16: the opcode, the low byte, the high byte (30_encoding.md R70, R73). -/
def withWord (op : Byte) (w : Word) : List Byte := [op, lo8 w, hi8 w]

/-- The bytes of an instruction, lowest address first. -/
def encode : Instr → List Byte
  | .nop => [opByte 0b00 0b000 0b000]
  | .lxi p w => withWord (opByte 0b00 (ppq (pairNum p) 0) 0b001) w
  | .dad p => [opByte 0b00 (ppq (pairNum p) 1) 0b001]
  | .stax p => [opByte 0b00 (ppq (indexNum p) 0) 0b010]
  | .ldax p => [opByte 0b00 (ppq (indexNum p) 1) 0b010]
  | .shld w => withWord (opByte 0b00 0b100 0b010) w
  | .lhld w => withWord (opByte 0b00 0b101 0b010) w
  | .sta w => withWord (opByte 0b00 0b110 0b010) w
  | .lda w => withWord (opByte 0b00 0b111 0b010) w
  | .inx p => [opByte 0b00 (ppq (pairNum p) 0) 0b011]
  | .dcx p => [opByte 0b00 (ppq (pairNum p) 1) 0b011]
  | .inr o => [opByte 0b00 (selNum o) 0b100]
  | .dcr o => [opByte 0b00 (selNum o) 0b101]
  | .mvi o d => [opByte 0b00 (selNum o) 0b110, d]
  | .rlc => [opByte 0b00 0b000 0b111]
  | .rrc => [opByte 0b00 0b001 0b111]
  | .ral => [opByte 0b00 0b010 0b111]
  | .rar => [opByte 0b00 0b011 0b111]
  | .daa => [opByte 0b00 0b100 0b111]
  | .cma => [opByte 0b00 0b101 0b111]
  | .stc => [opByte 0b00 0b110 0b111]
  | .cmc => [opByte 0b00 0b111 0b111]
  | .mov d s => [opByte 0b01 (selNum d) (selNum s)]
  | .hlt => [opByte 0b01 0b110 0b110]
  | .add o => [opByte 0b10 0b000 (selNum o)]
  | .adc o => [opByte 0b10 0b001 (selNum o)]
  | .sub o => [opByte 0b10 0b010 (selNum o)]
  | .sbb o => [opByte 0b10 0b011 (selNum o)]
  | .ana o => [opByte 0b10 0b100 (selNum o)]
  | .xra o => [opByte 0b10 0b101 (selNum o)]
  | .ora o => [opByte 0b10 0b110 (selNum o)]
  | .cmp o => [opByte 0b10 0b111 (selNum o)]
  | .rnz => [opByte 0b11 0b000 0b000]
  | .rz => [opByte 0b11 0b001 0b000]
  | .rnc => [opByte 0b11 0b010 0b000]
  | .rc => [opByte 0b11 0b011 0b000]
  | .rpo => [opByte 0b11 0b100 0b000]
  | .rpe => [opByte 0b11 0b101 0b000]
  | .rp => [opByte 0b11 0b110 0b000]
  | .rm => [opByte 0b11 0b111 0b000]
  | .jnz w => withWord (opByte 0b11 0b000 0b010) w
  | .jz w => withWord (opByte 0b11 0b001 0b010) w
  | .jnc w => withWord (opByte 0b11 0b010 0b010) w
  | .jc w => withWord (opByte 0b11 0b011 0b010) w
  | .jpo w => withWord (opByte 0b11 0b100 0b010) w
  | .jpe w => withWord (opByte 0b11 0b101 0b010) w
  | .jp w => withWord (opByte 0b11 0b110 0b010) w
  | .jm w => withWord (opByte 0b11 0b111 0b010) w
  | .cnz w => withWord (opByte 0b11 0b000 0b100) w
  | .cz w => withWord (opByte 0b11 0b001 0b100) w
  | .cnc w => withWord (opByte 0b11 0b010 0b100) w
  | .cc w => withWord (opByte 0b11 0b011 0b100) w
  | .cpo w => withWord (opByte 0b11 0b100 0b100) w
  | .cpe w => withWord (opByte 0b11 0b101 0b100) w
  | .cp w => withWord (opByte 0b11 0b110 0b100) w
  | .cm w => withWord (opByte 0b11 0b111 0b100) w
  | .jmp w => withWord (opByte 0b11 0b000 0b011) w
  | .call w => withWord (opByte 0b11 0b001 0b101) w
  | .ret => [opByte 0b11 0b001 0b001]
  | .rst n => [opByte 0b11 n 0b111]
  | .pchl => [opByte 0b11 0b101 0b001]
  | .popB => [opByte 0b11 0b000 0b001]
  | .popD => [opByte 0b11 0b010 0b001]
  | .popH => [opByte 0b11 0b100 0b001]
  | .popPsw => [opByte 0b11 0b110 0b001]
  | .pushB => [opByte 0b11 0b000 0b101]
  | .pushD => [opByte 0b11 0b010 0b101]
  | .pushH => [opByte 0b11 0b100 0b101]
  | .pushPsw => [opByte 0b11 0b110 0b101]
  | .xthl => [opByte 0b11 0b100 0b011]
  | .sphl => [opByte 0b11 0b111 0b001]
  | .xchg => [opByte 0b11 0b101 0b011]
  | .adi d => [opByte 0b11 0b000 0b110, d]
  | .aci d => [opByte 0b11 0b001 0b110, d]
  | .sui d => [opByte 0b11 0b010 0b110, d]
  | .sbi d => [opByte 0b11 0b011 0b110, d]
  | .ani d => [opByte 0b11 0b100 0b110, d]
  | .xri d => [opByte 0b11 0b101 0b110, d]
  | .ori d => [opByte 0b11 0b110 0b110, d]
  | .cpi d => [opByte 0b11 0b111 0b110, d]
  | .inPort p => [opByte 0b11 0b011 0b011, p]
  | .outPort p => [opByte 0b11 0b010 0b011, p]
  | .unmatched08 => [opByte 0b00 0b001 0b000]
  | .unmatched10 => [opByte 0b00 0b010 0b000]
  | .unmatched18 => [opByte 0b00 0b011 0b000]
  | .unmatched20 => [opByte 0b00 0b100 0b000]
  | .unmatched28 => [opByte 0b00 0b101 0b000]
  | .unmatched30 => [opByte 0b00 0b110 0b000]
  | .unmatched38 => [opByte 0b00 0b111 0b000]
  | .unmatchedCB => [opByte 0b11 0b001 0b011]
  | .unmatchedD9 => [opByte 0b11 0b011 0b001]
  | .unmatchedDD => [opByte 0b11 0b011 0b101]
  | .unmatchedED => [opByte 0b11 0b101 0b101]
  | .unmatchedFD => [opByte 0b11 0b111 0b101]
  | .unmatchedF3 => [opByte 0b11 0b110 0b011]
  | .unmatchedFB => [opByte 0b11 0b111 0b011]

end Sys2Proof
end

