-- ==== Sys2Proof/Machine/Flags.lean ====
section
/-! DEFINITION. The flags byte: its bits (spec/10_state.md R13, R14), the three flag routines on unbounded integers
(spec/40_flags_alu.md R100 to R102), and the branch conditions (spec/43_family11_control_stack.md R192). -/

namespace Sys2Proof.Machine

/-! ## Bits of F (10_state.md R13) -/

/-- `flag.S`. -/
def flagS (f : Byte) : Bool := f.getLsbD 7

/-- `flag.Z`. -/
def flagZ (f : Byte) : Bool := f.getLsbD 6

/-- `flag.AC`. -/
def flagAC (f : Byte) : Bool := f.getLsbD 4

/-- `flag.P`. -/
def flagP (f : Byte) : Bool := f.getLsbD 2

/-- `flag.C`. -/
def flagC (f : Byte) : Bool := f.getLsbD 0

/-- A byte with bit `i` set to `v` and the other bits kept. -/
def putBit (f : Byte) (i : Nat) (v : Bool) : Byte :=
  if v then f ||| ((1 : Byte) <<< i) else f &&& ~~~((1 : Byte) <<< i)

def putS (f : Byte) (v : Bool) : Byte := putBit f 7 v
def putZ (f : Byte) (v : Bool) : Byte := putBit f 6 v
def putAC (f : Byte) (v : Bool) : Byte := putBit f 4 v
def putP (f : Byte) (v : Bool) : Byte := putBit f 2 v
def putC (f : Byte) (v : Bool) : Byte := putBit f 0 v

/-- F as POP PSW loads it: bit 1 forced to 1, bits 3 and 5 forced to 0 (43_family11_control_stack.md R202). -/
def loadF (v : Byte) : Byte := (v &&& 0xD5) ||| 0x02

/-! ## The flag routines -/

/-- `parity_even(b)` (00_scope.md R5). -/
def parityEven (b : Byte) : Bool := ((List.range 8).filter (fun i => b.getLsbD i)).length % 2 == 0

/-- `r mod 256` (00_scope.md R5). -/
def low8 (r : Int) : Byte := BitVec.ofInt 8 r

/-- S, Z and P from a result (R100). -/
def setSZP (r : Int) (f : Byte) : Byte :=
  putP (putZ (putS f ((low8 r).getLsbD 7)) (low8 r == 0)) (parityEven (low8 r))

/-- The two-sided test that catches carry and borrow alike (R100). -/
def outside (x bound : Int) : Bool := !(decide (0 ≤ x) && decide (x < bound))

/-- `set_flags_not_c(r, n)` (R101). -/
def setFlagsNotC (r n : Int) (f : Byte) : Byte := putAC (setSZP r f) (outside n 16)

/-- `set_all_flags(r, n)` (R100). -/
def setAllFlags (r n : Int) (f : Byte) : Byte := putC (setFlagsNotC r n f) (outside r 256)

/-- `set_most_flags(r)` (R102). -/
def setMostFlags (r : Int) (f : Byte) : Byte := putC (setSZP r f) (outside r 256)

/-! ## The polarity of Auxiliary-Carry in the subtracting operations (00_scope.md R4; log 8) -/

/-- `AC_SUB_INVERT` (92_eei_decisions.md D6). -/
def acSubInvert : Bool := true

/-- `AC_DCR_INVERT` (92_eei_decisions.md D7). -/
def acDcrInvert : Bool := false

/-- AC inverted if the parameter says so. -/
def invertAC (flip : Bool) (f : Byte) : Byte := putAC f (flagAC f ^^ flip)

/-- 1 for a set flag, 0 for a clear one. -/
def bit (v : Bool) : Int := if v then 1 else 0

/-! ## Conditions -/

/-- The flag a condition number indexes: bits 2:1 of `ccc` in the order Z, C, P, S (R192). -/
def condFlag (ccc : BitVec 3) (f : Byte) : Bool :=
  match (ccc.extractLsb' 1 2).toNat with
  | 0 => flagZ f
  | 1 => flagC f
  | 2 => flagP f
  | _ => flagS f

/-- `cond(ccc)`: the indexed flag equals the polarity, bit 0 of `ccc` (R192). -/
def condHolds (ccc : BitVec 3) (f : Byte) : Bool := condFlag ccc f == ccc.getLsbD 0

end Sys2Proof.Machine
end

