-- ==== Sys2Proof/Machine/State.lean ====
section
/-! DEFINITION. The machine's state as plain data (spec/10_state.md), the stops of a step, the machine right after reset, and
one named update for each field that changes. -/

namespace Sys2Proof.Machine

/-- Memory as (address, byte) pairs: addresses strictly rising, no byte equal to what an unlisted address reads as
(`Memory.wf` in Machine/Ops.lean; 10_state.md R26, log 4). -/
abbrev Memory := List Host.Cell

/-- Why `halted` is 1 (10_state.md R21). -/
inductive HaltCause
  /-- Not halted. -/
  | none
  /-- HLT was executed (41_family01_mov_hlt.md R143). -/
  | hltInstruction
  /-- An unmatched first byte was fetched at `addr` (60_exceptions.md R242). -/
  | unimplementedOpcode (addr : Word) (opcode : Byte)
  /-- A stack byte access outside the valid region, with the check on (60_exceptions.md R243). -/
  | stackFault (addr : Word)
  /-- A store of `value` below the read-only boundary was refused (60_exceptions.md R244). -/
  | readOnlyViolation (addr : Word) (value : Byte)
  /-- An input handler answered `NO_DATA` (60_exceptions.md R245). -/
  | endOfInput (port : Byte)
  deriving DecidableEq, Repr

/-- The complete CPU state (10_state.md R24), which an input handler is given to read (20_memory.md R53, 44_io.md R230). -/
structure CpuView where
  b : Byte
  c : Byte
  d : Byte
  e : Byte
  h : Byte
  l : Byte
  a : Byte
  f : Byte
  sp : Word
  pc : Word
  icount : Nat
  halted : Bool
  deriving DecidableEq, Repr

/-- What a run shows to the outside (00_scope.md R8; log 11). -/
inductive Event
  /-- A `PortOut` that reached a mapped handler. -/
  | portOut (handler : Nat) (port value : Byte)
  /-- A `PortIn` on a mapped port: the CPU state the handler was given and what it answered. -/
  | portIn (handler : Nat) (port : Byte) (seen : CpuView) (answer : InAnswer)
  /-- A memory-mapped notification `on_write(addr, old, new)`. -/
  | onWrite (device : Nat) (addr : Word) (old new : Byte)
  deriving DecidableEq, Repr

/-- One frame of the diagnostic shadow stack: the SP that addresses a pushed return address, and that address
(10_state.md R30, 60_exceptions.md R260; log 12). -/
structure Frame where
  sp : Word
  pc : Word
  deriving DecidableEq, Repr

/-- One hook the run loop fired at a PC of the watch-set (60_exceptions.md R259, R262; log 18). -/
inductive Hook
  /-- The breakpoint hook. -/
  | breakpoint (pc : Word)
  /-- The trace hook, to the sink the host enabled. -/
  | trace (sink : Nat) (pc : Word)
  deriving DecidableEq, Repr

/-- The machine. INVENTORY.md lists each field with the rule that names it. -/
structure State where
  /-- B, C, D, E, H, L and the accumulator A (10_state.md R10). -/
  b : Byte
  c : Byte
  d : Byte
  e : Byte
  h : Byte
  l : Byte
  a : Byte
  /-- The flags byte, from bit 7 to bit 0: S Z 0 AC 0 P 1 C (10_state.md R13). -/
  f : Byte
  /-- The stack pointer (10_state.md R16). -/
  sp : Word
  /-- The program counter (10_state.md R17, R18). -/
  pc : Word
  /-- The instruction counter, unbounded (10_state.md R19). -/
  icount : Nat
  /-- The halt flag (10_state.md R20). -/
  halted : Bool
  /-- The halt cause (10_state.md R21). -/
  haltCause : HaltCause
  /-- The memory array (10_state.md R26). -/
  mem : Memory
  /-- The configuration state, constant during a run (10_state.md R22). -/
  cfg : HostConfig
  /-- The diagnostic call/return shadow stack, top first (10_state.md R30). -/
  shadow : List Frame
  /-- The unmapped output ports already logged, each once (10_state.md R30, 20_memory.md R55). -/
  loggedPorts : List Byte
  /-- MODEL'S OWN: the hooks the run loop fired, oldest first (60_exceptions.md R262; log 18). -/
  hookLog : List Hook
  /-- MODEL'S OWN: the observable events, oldest first (00_scope.md R8; log 11). -/
  events : List Event
  /-- MODEL'S OWN: the input oracle, the answers input handlers will give, oldest first (00_scope.md R7; log 5). -/
  inputs : List InAnswer
  /-- MODEL'S OWN: how many free values have been read (log 6). -/
  freeCount : Nat
  deriving DecidableEq, Repr

/-- The faults at which the machine itself stops. There are none: every fault of this hardware is persistent state that a NEXT
state holds (60_exceptions.md R240, R241), so nothing raises one, which is safe. -/
inductive Fault
  deriving DecidableEq, Repr

/-- The refusals. -/
inductive Refusal
  /-- No meaning yet; raised by an arm of `exec` only. Safe: the run stops. -/
  | notModelled (mnemonic : String)
  /-- `step` on a halted core has no transition (60_exceptions.md R261); raised by `step`. Safe: the run stops, as the spec says. -/
  | coreHalted
  /-- A memory-mapped range that overlaps a registered one is refused (20_memory.md R48); raised by the host's registration in
  Machine/Controller.lean. Safe: no instruction raises it. -/
  | overlappingRange
  /-- A host call with an argument out of range (20_memory.md R59, 93_implementation_defined.md U13; log 19); raised by
  `loadByte` and `setReadOnlyBoundary`. Safe: no instruction raises it. -/
  | hostMisuse
  deriving DecidableEq, Repr

/-- What an instruction or a step answers. -/
abbrev Result := Host.Outcome State Fault Refusal

/-- The configuration before the host changes it: boundary 0, no devices, an empty watch-set (10_state.md R31), the stack check
off with the whole address space valid (log 7), no trace sink (log 18). -/
def defaultConfig : HostConfig where
  romBoundary := 0
  mmio := []
  inDev := []
  outDev := []
  stackCheck := false
  stackValid := [⟨0x0000, 0xFFFF⟩]
  watch := []
  traceSink := none

/-- The machine right after creation and `reset(0)` (10_state.md R31, 70_reset_and_hazards.md R280 to R282). F, `icount`,
`halted`, `halt_cause` and the empty configuration are the spec's values; B to A and SP are log 1, PC is log 2, memory is log 4. -/
def State.reset : State where
  b := 0
  c := 0
  d := 0
  e := 0
  h := 0
  l := 0
  a := 0
  f := 0x02
  sp := 0
  pc := 0
  icount := 0
  halted := false
  haltCause := .none
  mem := []
  cfg := defaultConfig
  shadow := []
  loggedPorts := []
  hookLog := []
  events := []
  inputs := []
  freeCount := 0

/-! ## One update for each field that changes -/

def State.setF (s : State) (v : Byte) : State := { s with f := v }
def State.setSp (s : State) (v : Word) : State := { s with sp := v }
def State.setPc (s : State) (v : Word) : State := { s with pc := v }
def State.setIcount (s : State) (n : Nat) : State := { s with icount := n }
def State.setHalt (s : State) (halted : Bool) (cause : HaltCause) : State := { s with halted := halted, haltCause := cause }
def State.setMem (s : State) (m : Memory) : State := { s with mem := m }
def State.setCfg (s : State) (cfg : HostConfig) : State := { s with cfg := cfg }
def State.setShadow (s : State) (fs : List Frame) : State := { s with shadow := fs }
def State.setLoggedPorts (s : State) (ps : List Byte) : State := { s with loggedPorts := ps }
def State.setHookLog (s : State) (hs : List Hook) : State := { s with hookLog := hs }
def State.setEvents (s : State) (es : List Event) : State := { s with events := es }
def State.setInputs (s : State) (as : List InAnswer) : State := { s with inputs := as }
def State.setFreeCount (s : State) (n : Nat) : State := { s with freeCount := n }

/-- The state of the CPU as an input handler is given it. -/
def State.view (s : State) : CpuView where
  b := s.b
  c := s.c
  d := s.d
  e := s.e
  h := s.h
  l := s.l
  a := s.a
  f := s.f
  sp := s.sp
  pc := s.pc
  icount := s.icount
  halted := s.halted

end Sys2Proof.Machine
end

