-- ==== Sys2Proof/Machine/Ops.lean ====
section
/-! DEFINITION. The named operations over memory, registers, halting, ports and the stack (spec/20_memory.md,
spec/43_family11_control_stack.md section 1, spec/60_exceptions.md section 1). Every instruction goes through them. -/

namespace Sys2Proof.Machine

/-! ## The memory array (20_memory.md R40) -/

/-- What an address with no entry reads as (log 4). -/
def Memory.unlisted : Byte := 0x00

/-- The byte at an address. -/
def Memory.read : Memory → Nat → Byte
  | [], _ => Memory.unlisted
  | (a, v) :: m, k => if a = k then v else Memory.read m k

/-- Memory without an entry for `k`. -/
def Memory.erase : Memory → Nat → Memory
  | [], _ => []
  | (a, v) :: m, k => if a = k then Memory.erase m k else (a, v) :: Memory.erase m k

/-- An entry for `k` put before the first larger address. -/
def Memory.insert : Memory → Nat → Byte → Memory
  | [], k, v => [(k, v)]
  | (a, w) :: m, k, v => if k < a then (k, v) :: (a, w) :: m else (a, w) :: Memory.insert m k v

/-- Memory with byte `v` at address `k`; writing what an unlisted address reads as removes the entry. -/
def Memory.write (m : Memory) (k : Nat) (v : Byte) : Memory :=
  if v = Memory.unlisted then Memory.erase m k else Memory.insert (Memory.erase m k) k v

/-- The canonical form from address `lo` up: addresses strictly rising and below `memSize`, no entry equal to what an unlisted
address reads as. -/
def Memory.wfFrom : Nat → Memory → Bool
  | _, [] => true
  | lo, (a, v) :: m => decide (lo ≤ a) && decide (a < memSize) && v != Memory.unlisted && Memory.wfFrom (a + 1) m

/-- The canonical form. -/
def Memory.wf (m : Memory) : Bool := Memory.wfFrom 0 m

/-! ## Registers (10_state.md R10, R11) -/

/-- `reg[i]`. -/
def State.reg (s : State) : Reg → Byte
  | .b => s.b
  | .c => s.c
  | .d => s.d
  | .e => s.e
  | .h => s.h
  | .l => s.l
  | .a => s.a

/-- `reg[i] <- v`. No register is hard-wired. -/
def State.setReg (s : State) (r : Reg) (v : Byte) : State :=
  match r with
  | .b => { s with b := v }
  | .c => { s with c := v }
  | .d => { s with d := v }
  | .e => { s with e := v }
  | .h => { s with h := v }
  | .l => { s with l := v }
  | .a => { s with a := v }

/-- `BC`, the pair `B:C`. -/
def State.bc (s : State) : Word := wordOf s.b s.c

/-- `DE`, the pair `D:E`. -/
def State.de (s : State) : Word := wordOf s.d s.e

/-- `HL`, the pair `H:L`. -/
def State.hl (s : State) : Word := wordOf s.h s.l

/-- `BC <- w`. -/
def State.setBc (s : State) (w : Word) : State := (s.setReg .b (hi8 w)).setReg .c (lo8 w)

/-- `DE <- w`. -/
def State.setDe (s : State) (w : Word) : State := (s.setReg .d (hi8 w)).setReg .e (lo8 w)

/-- `HL <- w`. -/
def State.setHl (s : State) (w : Word) : State := (s.setReg .h (hi8 w)).setReg .l (lo8 w)

/-! ## Halting: taking an exception, and the return from it -/

/-- `raise X(info)`, this hardware's way of taking an exception: `halted` becomes 1 and the cause is recorded if none is; no
register is saved, PC is not redirected, and the rest of the instruction still runs (60_exceptions.md R241, R249; log 21).
HLT sets the same two fields in the same way (41_family01_mov_hlt.md R143). -/
def raise (x : HaltCause) (s : State) : State :=
  s.setHalt true (if s.haltCause = .none then x else s.haltCause)

/-- `reset(start_pc)`, the only return from a fault or a halt; an operation of the host, between runs (60_exceptions.md R251,
70_reset_and_hazards.md R281; log 20). -/
def resetAt (startPc : Nat) (s : State) : State :=
  ((s.setPc (BitVec.ofNat 16 startPc)).setF 0x02).setHalt false .none

/-- An observable event is recorded after the earlier ones (00_scope.md R8; log 11). -/
def record (e : Event) (s : State) : State := s.setEvents (s.events ++ [e])

/-! ## Memory accesses (20_memory.md R43 to R49) -/

/-- `MemRead(addr, 1)` (R43). -/
def memRead (s : State) (a : Word) : Byte := Memory.read s.mem a.toNat

/-- `MemRead(addr, 2)`: the low byte at `addr`, the high byte at `addr + 1`, wrapping (R45, R49). -/
def memRead16 (s : State) (a : Word) : Word := wordOf (memRead s (a + 1)) (memRead s a)

/-- Whether an address lies in a device's range, both ends included (R48). -/
def inMmioRange (r : MmioRange) (a : Word) : Bool :=
  decide (r.first.toNat ≤ a.toNat) && decide (a.toNat ≤ r.last.toNat)

/-- The memory-mapped device whose range holds an address; ranges are disjoint, so there is at most one (R48; log 15). -/
def deviceAt (s : State) (a : Word) : Option Nat :=
  (s.cfg.mmio.find? (fun r => inMmioRange r a)).map MmioRange.device

/-- `on_write(addr, old, new)` of the device at an address, if there is one (R44, R48). -/
def notify (a : Word) (old new : Byte) (s : State) : State :=
  match deviceAt s a with
  | some dev => record (.onWrite dev a old new) s
  | none => s

/-- `MemWrite(addr, 1, v)`: refused below the read-only boundary, else the array is updated and then the device is notified
(R44, R47). -/
def memWrite (a : Word) (v : Byte) (s : State) : State :=
  if a.toNat < s.cfg.romBoundary then raise (.readOnlyViolation a v) s
  else notify a (memRead s a) v (s.setMem (Memory.write s.mem a.toNat v))

/-- `MemWrite(addr, 2, w)`: the low byte at `addr`, then the high byte at `addr + 1`, each checked on its own (R46). -/
def memWrite16 (a : Word) (w : Word) (s : State) : State :=
  memWrite (a + 1) (hi8 w) (memWrite a (lo8 w) s)

/-! ## The port bus (20_memory.md R52 to R57) -/

/-- The handler a port map has for a port number. -/
def handlerOf (m : List PortEntry) (p : Byte) : Option Nat :=
  (m.find? (fun e => e.port == p)).map PortEntry.handler

/-- The environment's next answer: the first of the answers listed, else a free value (R54; log 5, log 6). -/
def nextAnswer (s : State) : InAnswer × State :=
  match s.inputs with
  | x :: xs => (x, s.setInputs xs)
  | [] => (Config.freeAnswer s.freeCount, s.setFreeCount (s.freeCount + 1))

/-- `PortIn(p)`: what the mapped handler answers, or 0x00 from an unmapped port (R54, R56). -/
def portIn (p : Byte) (s : State) : InAnswer × State :=
  match handlerOf s.cfg.inDev p with
  | some dev => ((nextAnswer s).1, record (.portIn dev p s.view (nextAnswer s).1) (nextAnswer s).2)
  | none => (.byte 0x00, s)

/-- A write to an unmapped port is logged once per port number (R55, 10_state.md R30; log 13). -/
def logPort (p : Byte) (s : State) : State :=
  if p ∈ s.loggedPorts then s else s.setLoggedPorts (p :: s.loggedPorts)

/-- `PortOut(p, v)`: delivered to the mapped handler, or dropped (R55, R56). -/
def portOut (p v : Byte) (s : State) : State :=
  match handlerOf s.cfg.outDev p with
  | some dev => record (.portOut dev p v) s
  | none => logPort p s

/-! ## The stack (43_family11_control_stack.md R190, R191) -/

/-- Whether an address lies in an inclusive range. -/
def inAddrRange (r : AddrRange) (a : Word) : Bool :=
  decide (r.first.toNat ≤ a.toNat) && decide (a.toNat ≤ r.last.toNat)

/-- `StackValid(a)` (00_scope.md R4, 92_eei_decisions.md D21; log 7). -/
def stackValid (s : State) (a : Word) : Bool := s.cfg.stackValid.any (fun r => inAddrRange r a)

/-- Whether a stack byte access at `a` raises `StackFault` (60_exceptions.md R243). -/
def stackFaults (s : State) (a : Word) : Bool := s.cfg.stackCheck && !stackValid s a

/-- `StackStore(a, v)` (R190). -/
def stackStore (a : Word) (v : Byte) (s : State) : State :=
  if stackFaults s a then raise (.stackFault a) s else memWrite a v s

/-- `StackLoad(a)`; the byte is a free value if the access faults (R191; log 6). -/
def stackLoad (a : Word) (s : State) : Byte × State :=
  if stackFaults s a then (Config.freeByte s.freeCount, raise (.stackFault a) (s.setFreeCount (s.freeCount + 1)))
  else (memRead s a, s)

/-- `Push16(w)`: SP is decremented first and stays so if a store faults (R190). -/
def push16 (w : Word) (s : State) : State :=
  stackStore (s.sp - 2 + 1) (hi8 w) (stackStore (s.sp - 2) (lo8 w) (s.setSp (s.sp - 2)))

/-- `Pop16()`: the low byte at SP, then the high byte at SP + 1, SP rising by 1 after each (R191). -/
def pop16 (s : State) : Word × State :=
  let lo := stackLoad s.sp s
  let hi := stackLoad (s.sp + 1) (lo.2.setSp (s.sp + 1))
  (wordOf hi.1 lo.1, hi.2.setSp (s.sp + 1 + 1))

/-! ## The diagnostic shadow stack (60_exceptions.md R260; log 12) -/

/-- CALL and RST push the SP that addresses the return address, and that address. -/
def pushFrame (fr : Frame) (s : State) : State := s.setShadow (fr :: s.shadow)

/-- RET pops the top frame if its SP is the one the return address is read at, else keeps every frame. -/
def popFrame (sp : Word) (s : State) : State :=
  match s.shadow with
  | fr :: rest => if fr.sp = sp then s.setShadow rest else s
  | [] => s

end Sys2Proof.Machine
end

