-- ==== Sys2Proof/Machine/Operands.lean ====
section
/-! DEFINITION. The operand forms: the 3-bit selector (spec/41_family01_mov_hlt.md R140, R141), the pair field
(spec/42_family00.md R150), the address pair of STAX and LDAX, and the pair of A and F. -/

namespace Sys2Proof.Machine

/-- `Opnd(s)` (R140). -/
def opnd (o : Sel) (s : State) : Byte :=
  match o with
  | .reg r => s.reg r
  | .m => memRead s s.hl

/-- `SetOpnd(s, v)` (R141). -/
def setOpnd (o : Sel) (v : Byte) (s : State) : State :=
  match o with
  | .reg r => s.setReg r v
  | .m => memWrite s.hl v s

/-- `RP(p)` (R150). -/
def rp (p : Pair) (s : State) : Word :=
  match p with
  | .bc => s.bc
  | .de => s.de
  | .hl => s.hl
  | .sp => s.sp

/-- `SetRP(p, w)` (R150). -/
def setRp (p : Pair) (w : Word) (s : State) : State :=
  match p with
  | .bc => s.setBc w
  | .de => s.setDe w
  | .hl => s.setHl w
  | .sp => s.setSp w

/-- The address STAX and LDAX use (42_family00.md R154, R155). -/
def indexAddr (p : IndexPair) (s : State) : Word :=
  match p with
  | .bc => s.bc
  | .de => s.de

/-- `PSW_A_HIGH`: A is the byte at SP + 1 and F the byte at SP (00_scope.md R4, 92_eei_decisions.md D2; log 8). -/
def pswAHigh : Bool := true

/-- The pair of A and F as PUSH PSW stores it (43_family11_control_stack.md R204). -/
def psw (s : State) : Word := if pswAHigh then wordOf s.a s.f else wordOf s.f s.a

/-- A and F as POP PSW loads them (43_family11_control_stack.md R202). -/
def setPsw (w : Word) (s : State) : State :=
  if pswAHigh then (s.setReg .a (hi8 w)).setF (loadF (lo8 w)) else (s.setReg .a (lo8 w)).setF (loadF (hi8 w))

end Sys2Proof.Machine
end

