-- ==== Sys2Proof/Machine/Alu.lean ====
section
/-! DEFINITION. The 8-bit ALU and the sixteen instructions that call it (spec/40_flags_alu.md R103 to R121): the register and
memory forms of family 10 and the immediate forms of family 11. -/

namespace Sys2Proof.Machine

/-! ## The ALU (R103 to R105, R110 to R112) -/

/-- The low nibble of a byte, `v & 0x0F`. -/
def nibble (v : Byte) : Int := ((v &&& 0x0F).toNat : Int)

/-- The add path with the carry-in `cin` (R104). -/
def aluAdd (v : Byte) (cin : Bool) (s : State) : State :=
  (s.setF (setAllFlags ((s.a.toNat : Int) + v.toNat + bit cin) (nibble s.a + nibble v + bit cin) s.f)).setReg .a
    (low8 ((s.a.toNat : Int) + v.toNat + bit cin))

/-- The unmasked difference of the subtract path (R105). -/
def difference (v : Byte) (cin : Bool) (s : State) : Int := (s.a.toNat : Int) - v.toNat - bit cin

/-- The flags of the subtract path: the two-sided tests, then Auxiliary-Carry inverted (R105, 90_conflicts.md C3). -/
def aluCompare (v : Byte) (cin : Bool) (s : State) : State :=
  s.setF (invertAC acSubInvert (setAllFlags (difference v cin s) (nibble s.a - nibble v - bit cin) s.f))

/-- The subtract path of SUB and SBB (R105). -/
def aluSub (v : Byte) (cin : Bool) (s : State) : State :=
  (aluCompare v cin s).setReg .a (low8 (difference v cin s))

/-- A bitwise result whose flags leave AC as it was: AND and OR (R110, R112). -/
def aluMost (r : Byte) (s : State) : State := (s.setF (setMostFlags r.toNat s.f)).setReg .a r

/-- XOR, which always clears AC (R111). -/
def aluXor (v : Byte) (s : State) : State :=
  (s.setF (setAllFlags (s.a ^^^ v).toNat 0 s.f)).setReg .a (s.a ^^^ v)

/-! ## Register and memory forms -/

/-- ADD r (R106). -/
def execAdd (o : Sel) (s : State) : Result := .next (aluAdd (opnd o s) false s)

/-- ADC r (R107). -/
def execAdc (o : Sel) (s : State) : Result := .next (aluAdd (opnd o s) (flagC s.f) s)

/-- SUB r (R108). -/
def execSub (o : Sel) (s : State) : Result := .next (aluSub (opnd o s) false s)

/-- SBB r (R109). -/
def execSbb (o : Sel) (s : State) : Result := .next (aluSub (opnd o s) (flagC s.f) s)

/-- ANA r (R110). -/
def execAna (o : Sel) (s : State) : Result := .next (aluMost (s.a &&& opnd o s) s)

/-- XRA r (R111). -/
def execXra (o : Sel) (s : State) : Result := .next (aluXor (opnd o s) s)

/-- ORA r (R112). -/
def execOra (o : Sel) (s : State) : Result := .next (aluMost (s.a ||| opnd o s) s)

/-- CMP r (R113). -/
def execCmp (o : Sel) (s : State) : Result := .next (aluCompare (opnd o s) false s)

/-! ## Immediate forms -/

/-- ADI d8 (R114). -/
def execAdi (d8 : Byte) (s : State) : Result := .next (aluAdd d8 false s)

/-- ACI d8 (R115). -/
def execAci (d8 : Byte) (s : State) : Result := .next (aluAdd d8 (flagC s.f) s)

/-- SUI d8 (R116). -/
def execSui (d8 : Byte) (s : State) : Result := .next (aluSub d8 false s)

/-- SBI d8 (R117). -/
def execSbi (d8 : Byte) (s : State) : Result := .next (aluSub d8 (flagC s.f) s)

/-- ANI d8 (R118). -/
def execAni (d8 : Byte) (s : State) : Result := .next (aluMost (s.a &&& d8) s)

/-- XRI d8 (R119). -/
def execXri (d8 : Byte) (s : State) : Result := .next (aluXor d8 s)

/-- ORI d8 (R120). -/
def execOri (d8 : Byte) (s : State) : Result := .next (aluMost (s.a ||| d8) s)

/-- CPI d8 (R121). -/
def execCpi (d8 : Byte) (s : State) : Result := .next (aluCompare d8 false s)

end Sys2Proof.Machine
end

