-- ==== Sys2Proof/Machine/Family00.lean ====
section
/-! DEFINITION. Family 00 (spec/42_family00.md R151 to R172): NOP, 16-bit loads and arithmetic, direct and indirect loads and
stores, INR, DCR, MVI, the rotates, DAA, CMA, STC, CMC. -/

namespace Sys2Proof.Machine

/-! ## 16-bit loads and arithmetic -/

/-- NOP (R151). -/
def execNop (s : State) : Result := .next s

/-- LXI rp,d16 (R152). -/
def execLxi (p : Pair) (d16 : Word) (s : State) : Result := .next (setRp p d16 s)

/-- The sum of two low bytes, unmasked. -/
def lowSum (x y : Word) : Nat := (lo8 x).toNat + (lo8 y).toNat

/-- The sum of two high bytes and the carry out of the low sum, unmasked. -/
def highSum (x y : Word) : Nat := (hi8 x).toNat + (hi8 y).toNat + if lowSum x y ≥ 256 then 1 else 0

/-- DAD rp: two chained 8-bit additions; only Carry is written (R153). -/
def execDad (p : Pair) (s : State) : Result :=
  .next ((s.setF (putC s.f (decide (highSum s.hl (rp p s) ≥ 256)))).setHl
    (wordOf (BitVec.ofNat 8 (highSum s.hl (rp p s))) (BitVec.ofNat 8 (lowSum s.hl (rp p s)))))

/-- A 16-bit increment with byte-carry chaining (R160). -/
def incPair (w : Word) : Word :=
  wordOf (BitVec.ofNat 8 ((hi8 w).toNat + if (lo8 w).toNat + 1 = 256 then 1 else 0)) (BitVec.ofNat 8 ((lo8 w).toNat + 1))

/-- A 16-bit decrement with byte-borrow chaining (R161). -/
def decPair (w : Word) : Word :=
  wordOf (low8 ((hi8 w).toNat - if ((lo8 w).toNat : Int) - 1 < 0 then 1 else 0)) (low8 (((lo8 w).toNat : Int) - 1))

/-- INX rp (R160). -/
def execInx (p : Pair) (s : State) : Result := .next (setRp p (incPair (rp p s)) s)

/-- DCX rp (R161). -/
def execDcx (p : Pair) (s : State) : Result := .next (setRp p (decPair (rp p s)) s)

/-! ## Direct and indirect loads and stores -/

/-- STAX B, STAX D (R154). -/
def execStax (p : IndexPair) (s : State) : Result := .next (memWrite (indexAddr p s) s.a s)

/-- LDAX B, LDAX D (R155). -/
def execLdax (p : IndexPair) (s : State) : Result := .next (s.setReg .a (memRead s (indexAddr p s)))

/-- SHLD a16 (R156). -/
def execShld (a16 : Word) (s : State) : Result := .next (memWrite16 a16 s.hl s)

/-- LHLD a16 (R157). -/
def execLhld (a16 : Word) (s : State) : Result := .next (s.setHl (memRead16 s a16))

/-- STA a16 (R158). -/
def execSta (a16 : Word) (s : State) : Result := .next (memWrite a16 s.a s)

/-- LDA a16 (R159). -/
def execLda (a16 : Word) (s : State) : Result := .next (s.setReg .a (memRead s a16))

/-! ## 8-bit increment, decrement, move immediate -/

/-- INR r: the flags are written even if the store is refused; Carry is kept (R162). -/
def execInr (o : Sel) (s : State) : Result :=
  .next (setOpnd o (low8 ((opnd o s).toNat + 1))
    (s.setF (setFlagsNotC ((opnd o s).toNat + 1) (((opnd o s &&& 0x0F).toNat : Int) + 1) s.f)))

/-- DCR r (R163; log 8). -/
def execDcr (o : Sel) (s : State) : Result :=
  .next (setOpnd o (low8 ((opnd o s).toNat - 1))
    (s.setF (invertAC acDcrInvert (setFlagsNotC ((opnd o s).toNat - 1) (((opnd o s &&& 0x0F).toNat : Int) - 1) s.f))))

/-- MVI r,d8 (R164). -/
def execMvi (o : Sel) (d8 : Byte) (s : State) : Result := .next (setOpnd o d8 s)

/-! ## The rotates: A and Carry only -/

/-- A and Carry written, every other flag kept. -/
def setAC (a : Byte) (carry : Bool) (s : State) : State := (s.setF (putC s.f carry)).setReg .a a

/-- A byte with one bit set or clear. -/
def bitAt (v : Bool) (i : Nat) : Byte := if v then (1 : Byte) <<< i else 0

/-- RLC (R165). -/
def execRlc (s : State) : Result := .next (setAC ((s.a <<< 1) ||| bitAt (s.a.getLsbD 7) 0) (s.a.getLsbD 7) s)

/-- RRC (R166). -/
def execRrc (s : State) : Result := .next (setAC ((s.a >>> 1) ||| bitAt (s.a.getLsbD 0) 7) (s.a.getLsbD 0) s)

/-- RAL (R167). -/
def execRal (s : State) : Result := .next (setAC ((s.a <<< 1) ||| bitAt (flagC s.f) 0) (s.a.getLsbD 7) s)

/-- RAR (R168). -/
def execRar (s : State) : Result := .next (setAC ((s.a >>> 1) ||| bitAt (flagC s.f) 7) (s.a.getLsbD 0) s)

/-! ## DAA, CMA, STC, CMC -/

/-- The first adjustment of DAA: 6 if the low nibble is over 9 or AC is set, else 0 (R169). -/
def daaLow (s : State) : Nat := if (s.a &&& 0x0F).toNat > 9 ∨ flagAC s.f = true then 0x06 else 0

/-- A after the first adjustment, unmasked. -/
def daaFirst (s : State) : Nat := s.a.toNat + daaLow s

/-- The second adjustment of DAA: 0x60 if the first carried, the high nibble is now over 9, or Carry was set (R169). -/
def daaHigh (s : State) : Nat :=
  if daaFirst s ≥ 256 ∨ daaFirst s % 256 / 16 > 9 ∨ flagC s.f = true then 0x60 else 0

/-- A after both adjustments, unmasked. -/
def daaSecond (s : State) : Nat := daaFirst s % 256 + daaHigh s

/-- DAA (R169). -/
def execDaa (s : State) : Result :=
  .next ((s.setF (putAC (putC (setSZP (daaSecond s) s.f)
      (decide (daaFirst s ≥ 256) || decide (daaSecond s ≥ 256) || flagC s.f))
      (decide ((s.a &&& 0x0F).toNat + daaLow s ≥ 16)))).setReg .a (BitVec.ofNat 8 (daaSecond s)))

/-- CMA (R170). -/
def execCma (s : State) : Result := .next (s.setReg .a (s.a ^^^ 0xFF))

/-- STC (R171). -/
def execStc (s : State) : Result := .next (s.setF (putC s.f true))

/-- CMC (R172). -/
def execCmc (s : State) : Result := .next (s.setF (putC s.f (!flagC s.f)))

end Sys2Proof.Machine
end

