-- ==== Sys2Proof/Machine/Family01.lean ====
section
/-! DEFINITION. Family 01: MOV and HLT (spec/41_family01_mov_hlt.md R142, R143). -/

namespace Sys2Proof.Machine

/-- MOV r1,r2 (R142). -/
def execMov (dst src : Sel) (s : State) : Result := .next (setOpnd dst (opnd src s) s)

/-- HLT (R143): the core halts; a host `reset` is the only way on (60_exceptions.md R263). -/
def execHlt (s : State) : Result := .next (raise .hltInstruction s)

end Sys2Proof.Machine
end

