-- ==== Sys2Proof/Machine/Family11.lean ====
section
/-! DEFINITION. Family 11 but for the immediate ALU forms and the ports (spec/43_family11_control_stack.md R193 to R207):
returns, jumps, calls, RST, PCHL, POP, PUSH, XTHL, SPHL, XCHG. Inside a meaning PC already holds the address of the next
instruction (spec/10_state.md R18). -/

namespace Sys2Proof.Machine

/-! ## The shared transfers (R193 to R199); the shadow stack is diagnostic (log 12) -/

/-- A call: the return address is pushed and control goes to the target (R197). -/
def callTo (target : Word) (s : State) : State :=
  (pushFrame ⟨s.sp - 2, s.pc⟩ (push16 s.pc s)).setPc target

/-- A return: control goes to the popped address (R198). -/
def returnTo (s : State) : State := (popFrame s.sp (pop16 s).2).setPc (pop16 s).1

/-- A transfer done only when the condition numbered `ccc` holds (R192). -/
def whenCond (ccc : BitVec 3) (taken : State → State) (s : State) : State := if condHolds ccc s.f then taken s else s

/-! ## Conditional returns (R193) -/

/-- RNZ: return if Z = 0 (R193). -/
def execRnz (s : State) : Result := .next (whenCond 0 returnTo s)

/-- RZ: return if Z = 1 (R193). -/
def execRz (s : State) : Result := .next (whenCond 1 returnTo s)

/-- RNC: return if C = 0 (R193). -/
def execRnc (s : State) : Result := .next (whenCond 2 returnTo s)

/-- RC: return if C = 1 (R193). -/
def execRc (s : State) : Result := .next (whenCond 3 returnTo s)

/-- RPO: return if P = 0 (R193). -/
def execRpo (s : State) : Result := .next (whenCond 4 returnTo s)

/-- RPE: return if P = 1 (R193). -/
def execRpe (s : State) : Result := .next (whenCond 5 returnTo s)

/-- RP: return if S = 0 (R193). -/
def execRp (s : State) : Result := .next (whenCond 6 returnTo s)

/-- RM: return if S = 1 (R193). -/
def execRm (s : State) : Result := .next (whenCond 7 returnTo s)

/-! ## Conditional jumps (R194) -/

/-- JNZ a16: jump if Z = 0 (R194). -/
def execJnz (a16 : Word) (s : State) : Result := .next (whenCond 0 (fun s => s.setPc a16) s)

/-- JZ a16: jump if Z = 1 (R194). -/
def execJz (a16 : Word) (s : State) : Result := .next (whenCond 1 (fun s => s.setPc a16) s)

/-- JNC a16: jump if C = 0 (R194). -/
def execJnc (a16 : Word) (s : State) : Result := .next (whenCond 2 (fun s => s.setPc a16) s)

/-- JC a16: jump if C = 1 (R194). -/
def execJc (a16 : Word) (s : State) : Result := .next (whenCond 3 (fun s => s.setPc a16) s)

/-- JPO a16: jump if P = 0 (R194). -/
def execJpo (a16 : Word) (s : State) : Result := .next (whenCond 4 (fun s => s.setPc a16) s)

/-- JPE a16: jump if P = 1 (R194). -/
def execJpe (a16 : Word) (s : State) : Result := .next (whenCond 5 (fun s => s.setPc a16) s)

/-- JP a16: jump if S = 0 (R194). -/
def execJp (a16 : Word) (s : State) : Result := .next (whenCond 6 (fun s => s.setPc a16) s)

/-- JM a16: jump if S = 1 (R194). -/
def execJm (a16 : Word) (s : State) : Result := .next (whenCond 7 (fun s => s.setPc a16) s)

/-! ## Conditional calls (R195) -/

/-- CNZ a16: call if Z = 0 (R195). -/
def execCnz (a16 : Word) (s : State) : Result := .next (whenCond 0 (callTo a16) s)

/-- CZ a16: call if Z = 1 (R195). -/
def execCz (a16 : Word) (s : State) : Result := .next (whenCond 1 (callTo a16) s)

/-- CNC a16: call if C = 0 (R195). -/
def execCnc (a16 : Word) (s : State) : Result := .next (whenCond 2 (callTo a16) s)

/-- CC a16: call if C = 1 (R195). -/
def execCc (a16 : Word) (s : State) : Result := .next (whenCond 3 (callTo a16) s)

/-- CPO a16: call if P = 0 (R195). -/
def execCpo (a16 : Word) (s : State) : Result := .next (whenCond 4 (callTo a16) s)

/-- CPE a16: call if P = 1 (R195). -/
def execCpe (a16 : Word) (s : State) : Result := .next (whenCond 5 (callTo a16) s)

/-- CP a16: call if S = 0 (R195). -/
def execCp (a16 : Word) (s : State) : Result := .next (whenCond 6 (callTo a16) s)

/-- CM a16: call if S = 1 (R195). -/
def execCm (a16 : Word) (s : State) : Result := .next (whenCond 7 (callTo a16) s)

/-! ## Unconditional transfers -/

/-- JMP a16 (R196). -/
def execJmp (a16 : Word) (s : State) : Result := .next (s.setPc a16)

/-- CALL a16 (R197). -/
def execCall (a16 : Word) (s : State) : Result := .next (callTo a16 s)

/-- RET (R198). -/
def execRet (s : State) : Result := .next (returnTo s)

/-- RST n: a one-byte call of the address `n * 8` (R199, 20_memory.md R51). -/
def execRst (n : BitVec 3) (s : State) : Result := .next (callTo (BitVec.ofNat 16 (n.toNat * 8)) s)

/-- PCHL (R200). -/
def execPchl (s : State) : Result := .next (s.setPc s.hl)

/-! ## POP and PUSH -/

/-- POP B (R201). -/
def execPopB (s : State) : Result := .next ((pop16 s).2.setBc (pop16 s).1)

/-- POP D (R201). -/
def execPopD (s : State) : Result := .next ((pop16 s).2.setDe (pop16 s).1)

/-- POP H (R201). -/
def execPopH (s : State) : Result := .next ((pop16 s).2.setHl (pop16 s).1)

/-- POP PSW (R202). -/
def execPopPsw (s : State) : Result := .next (setPsw (pop16 s).1 (pop16 s).2)

/-- PUSH B (R203). -/
def execPushB (s : State) : Result := .next (push16 s.bc s)

/-- PUSH D (R203). -/
def execPushD (s : State) : Result := .next (push16 s.de s)

/-- PUSH H (R203). -/
def execPushH (s : State) : Result := .next (push16 s.hl s)

/-- PUSH PSW (R204). -/
def execPushPsw (s : State) : Result := .next (push16 (psw s) s)

/-! ## The exchanges -/

/-- XTHL: both bytes are read, then both are written, then HL is loaded, also after a refused store; the stack check is not
applied (R205). -/
def execXthl (s : State) : Result := .next ((memWrite16 s.sp s.hl s).setHl (memRead16 s s.sp))

/-- SPHL (R206). -/
def execSphl (s : State) : Result := .next (s.setSp s.hl)

/-- XCHG (R207). -/
def execXchg (s : State) : Result := .next ((s.setHl s.de).setDe s.hl)

end Sys2Proof.Machine
end

