-- ==== Sys2Proof/Machine/Io.lean ====
section
/-! DEFINITION. IN and OUT (spec/44_io.md R230, R231). -/

namespace Sys2Proof.Machine

/-- What IN does with the answer: a byte is loaded into A; `NO_DATA` raises `EndOfInput` and A keeps its value
(R230, 60_exceptions.md R245). -/
def takeInput (p : Byte) (answer : InAnswer) (s : State) : State :=
  match answer with
  | .byte v => s.setReg .a v
  | .noData => raise (.endOfInput p) s

/-- IN p8 (R230). -/
def execInPort (p8 : Byte) (s : State) : Result := .next (takeInput p8 (portIn p8 s).1 (portIn p8 s).2)

/-- OUT p8 (R231). -/
def execOutPort (p8 : Byte) (s : State) : Result := .next (portOut p8 s.a s)

end Sys2Proof.Machine
end

