-- ==== Sys2Proof/Machine/Unmatched.lean ====
section
/-! DEFINITION. The 14 unmatched first bytes (spec/30_encoding.md R77): each raises `UnimplementedOpcode`
(spec/60_exceptions.md R242). -/

namespace Sys2Proof.Machine

/-- `raise UnimplementedOpcode(pc0, opcode)`; PC has already advanced by 1, so `pc0` is `PC - 1` (30_encoding.md R74; log 23). -/
def unimplemented (opcode : Byte) (s : State) : State := raise (.unimplementedOpcode (s.pc - 1) opcode) s

/-- The unmatched byte 0x08 (R242). -/
def execUnmatched08 (s : State) : Result := .next (unimplemented 0x08 s)

/-- The unmatched byte 0x10 (R242). -/
def execUnmatched10 (s : State) : Result := .next (unimplemented 0x10 s)

/-- The unmatched byte 0x18 (R242). -/
def execUnmatched18 (s : State) : Result := .next (unimplemented 0x18 s)

/-- The unmatched byte 0x20 (R242). -/
def execUnmatched20 (s : State) : Result := .next (unimplemented 0x20 s)

/-- The unmatched byte 0x28 (R242). -/
def execUnmatched28 (s : State) : Result := .next (unimplemented 0x28 s)

/-- The unmatched byte 0x30 (R242). -/
def execUnmatched30 (s : State) : Result := .next (unimplemented 0x30 s)

/-- The unmatched byte 0x38 (R242). -/
def execUnmatched38 (s : State) : Result := .next (unimplemented 0x38 s)

/-- The unmatched byte 0xCB (R242). -/
def execUnmatchedCB (s : State) : Result := .next (unimplemented 0xCB s)

/-- The unmatched byte 0xD9 (R242). -/
def execUnmatchedD9 (s : State) : Result := .next (unimplemented 0xD9 s)

/-- The unmatched byte 0xDD (R242). -/
def execUnmatchedDD (s : State) : Result := .next (unimplemented 0xDD s)

/-- The unmatched byte 0xED (R242). -/
def execUnmatchedED (s : State) : Result := .next (unimplemented 0xED s)

/-- The unmatched byte 0xFD (R242). -/
def execUnmatchedFD (s : State) : Result := .next (unimplemented 0xFD s)

/-- The unmatched byte 0xF3 (R242). -/
def execUnmatchedF3 (s : State) : Result := .next (unimplemented 0xF3 s)

/-- The unmatched byte 0xFB (R242). -/
def execUnmatchedFB (s : State) : Result := .next (unimplemented 0xFB s)

end Sys2Proof.Machine
end

