-- ==== Sys2Proof/Machine/Dispatch.lean ====
section
/-! DEFINITION. One arm for each instruction: its meaning (spec/30_encoding.md R76). -/

namespace Sys2Proof.Machine

/-- The effect of an instruction, with PC already past it (spec/10_state.md R18). -/
def exec (i : Instr) (s : State) : Host.Outcome State Fault Refusal :=
  match i with
  | .nop => Sys2Proof.Machine.execNop s
  | .lxi p d16 => Sys2Proof.Machine.execLxi p d16 s
  | .dad p => Sys2Proof.Machine.execDad p s
  | .stax p => Sys2Proof.Machine.execStax p s
  | .ldax p => Sys2Proof.Machine.execLdax p s
  | .shld a16 => Sys2Proof.Machine.execShld a16 s
  | .lhld a16 => Sys2Proof.Machine.execLhld a16 s
  | .sta a16 => Sys2Proof.Machine.execSta a16 s
  | .lda a16 => Sys2Proof.Machine.execLda a16 s
  | .inx p => Sys2Proof.Machine.execInx p s
  | .dcx p => Sys2Proof.Machine.execDcx p s
  | .inr o => Sys2Proof.Machine.execInr o s
  | .dcr o => Sys2Proof.Machine.execDcr o s
  | .mvi o d8 => Sys2Proof.Machine.execMvi o d8 s
  | .rlc => Sys2Proof.Machine.execRlc s
  | .rrc => Sys2Proof.Machine.execRrc s
  | .ral => Sys2Proof.Machine.execRal s
  | .rar => Sys2Proof.Machine.execRar s
  | .daa => Sys2Proof.Machine.execDaa s
  | .cma => Sys2Proof.Machine.execCma s
  | .stc => Sys2Proof.Machine.execStc s
  | .cmc => Sys2Proof.Machine.execCmc s
  | .mov dst src => Sys2Proof.Machine.execMov dst src s
  | .hlt => Sys2Proof.Machine.execHlt s
  | .add o => Sys2Proof.Machine.execAdd o s
  | .adc o => Sys2Proof.Machine.execAdc o s
  | .sub o => Sys2Proof.Machine.execSub o s
  | .sbb o => Sys2Proof.Machine.execSbb o s
  | .ana o => Sys2Proof.Machine.execAna o s
  | .xra o => Sys2Proof.Machine.execXra o s
  | .ora o => Sys2Proof.Machine.execOra o s
  | .cmp o => Sys2Proof.Machine.execCmp o s
  | .rnz => Sys2Proof.Machine.execRnz s
  | .rz => Sys2Proof.Machine.execRz s
  | .rnc => Sys2Proof.Machine.execRnc s
  | .rc => Sys2Proof.Machine.execRc s
  | .rpo => Sys2Proof.Machine.execRpo s
  | .rpe => Sys2Proof.Machine.execRpe s
  | .rp => Sys2Proof.Machine.execRp s
  | .rm => Sys2Proof.Machine.execRm s
  | .jnz a16 => Sys2Proof.Machine.execJnz a16 s
  | .jz a16 => Sys2Proof.Machine.execJz a16 s
  | .jnc a16 => Sys2Proof.Machine.execJnc a16 s
  | .jc a16 => Sys2Proof.Machine.execJc a16 s
  | .jpo a16 => Sys2Proof.Machine.execJpo a16 s
  | .jpe a16 => Sys2Proof.Machine.execJpe a16 s
  | .jp a16 => Sys2Proof.Machine.execJp a16 s
  | .jm a16 => Sys2Proof.Machine.execJm a16 s
  | .cnz a16 => Sys2Proof.Machine.execCnz a16 s
  | .cz a16 => Sys2Proof.Machine.execCz a16 s
  | .cnc a16 => Sys2Proof.Machine.execCnc a16 s
  | .cc a16 => Sys2Proof.Machine.execCc a16 s
  | .cpo a16 => Sys2Proof.Machine.execCpo a16 s
  | .cpe a16 => Sys2Proof.Machine.execCpe a16 s
  | .cp a16 => Sys2Proof.Machine.execCp a16 s
  | .cm a16 => Sys2Proof.Machine.execCm a16 s
  | .jmp a16 => Sys2Proof.Machine.execJmp a16 s
  | .call a16 => Sys2Proof.Machine.execCall a16 s
  | .ret => Sys2Proof.Machine.execRet s
  | .rst n => Sys2Proof.Machine.execRst n s
  | .pchl => Sys2Proof.Machine.execPchl s
  | .popB => Sys2Proof.Machine.execPopB s
  | .popD => Sys2Proof.Machine.execPopD s
  | .popH => Sys2Proof.Machine.execPopH s
  | .popPsw => Sys2Proof.Machine.execPopPsw s
  | .pushB => Sys2Proof.Machine.execPushB s
  | .pushD => Sys2Proof.Machine.execPushD s
  | .pushH => Sys2Proof.Machine.execPushH s
  | .pushPsw => Sys2Proof.Machine.execPushPsw s
  | .xthl => Sys2Proof.Machine.execXthl s
  | .sphl => Sys2Proof.Machine.execSphl s
  | .xchg => Sys2Proof.Machine.execXchg s
  | .adi d8 => Sys2Proof.Machine.execAdi d8 s
  | .aci d8 => Sys2Proof.Machine.execAci d8 s
  | .sui d8 => Sys2Proof.Machine.execSui d8 s
  | .sbi d8 => Sys2Proof.Machine.execSbi d8 s
  | .ani d8 => Sys2Proof.Machine.execAni d8 s
  | .xri d8 => Sys2Proof.Machine.execXri d8 s
  | .ori d8 => Sys2Proof.Machine.execOri d8 s
  | .cpi d8 => Sys2Proof.Machine.execCpi d8 s
  | .inPort p8 => Sys2Proof.Machine.execInPort p8 s
  | .outPort p8 => Sys2Proof.Machine.execOutPort p8 s
  | .unmatched08 => Sys2Proof.Machine.execUnmatched08 s
  | .unmatched10 => Sys2Proof.Machine.execUnmatched10 s
  | .unmatched18 => Sys2Proof.Machine.execUnmatched18 s
  | .unmatched20 => Sys2Proof.Machine.execUnmatched20 s
  | .unmatched28 => Sys2Proof.Machine.execUnmatched28 s
  | .unmatched30 => Sys2Proof.Machine.execUnmatched30 s
  | .unmatched38 => Sys2Proof.Machine.execUnmatched38 s
  | .unmatchedCB => Sys2Proof.Machine.execUnmatchedCB s
  | .unmatchedD9 => Sys2Proof.Machine.execUnmatchedD9 s
  | .unmatchedDD => Sys2Proof.Machine.execUnmatchedDD s
  | .unmatchedED => Sys2Proof.Machine.execUnmatchedED s
  | .unmatchedFD => Sys2Proof.Machine.execUnmatchedFD s
  | .unmatchedF3 => Sys2Proof.Machine.execUnmatchedF3 s
  | .unmatchedFB => Sys2Proof.Machine.execUnmatchedFB s

end Sys2Proof.Machine
end

