-- ==== Sys2Proof/Machine/Fetch.lean ====
section
/-! DEFINITION. What surrounds an instruction's effect in a step: fetching and decoding at PC, moving PC past the instruction,
counting the step (spec/30_encoding.md R73, R74). -/

namespace Sys2Proof.Machine

/-- The instruction at PC, read with `MemRead`; the later bytes wrap past 0xFFFF (R73, R74, 10_state.md R17). -/
def fetchInstr (s : State) : Instr := decode (memRead s s.pc) (memRead s (s.pc + 1)) (memRead s (s.pc + 2))

/-- `PC <- pc0 + len`, before the effect (R74, 10_state.md R18). -/
def advancePc (i : Instr) (s : State) : State := s.setPc (s.pc + BitVec.ofNat 16 i.length)

/-- `icount <- icount + 1`, last, and also on a step that halts or faults (R74, 10_state.md R19). -/
def countStep (o : Result) : Result :=
  match o with
  | .next s => .next (s.setIcount (s.icount + 1))
  | .fault r => .fault r
  | .refused r => .refused r

/-- Bytes put in memory from an address up, as the host's loader does: unchecked and without notification (20_memory.md R59). -/
def placeBytes : Word → List Byte → State → State
  | _, [], s => s
  | a, v :: vs, s => placeBytes (a + 1) vs (s.setMem (Memory.write s.mem a.toNat v))

end Sys2Proof.Machine
end

