-- ==== Sys2Proof/Machine/Step.lean ====
section
/-! DEFINITION. One step of the core (spec/30_encoding.md R74, spec/60_exceptions.md R261). -/

namespace Sys2Proof.Machine

/-- `step()`: refused on a halted core (R261), else fetch, decode, advance PC, execute, count (R74). -/
def step (s : State) : Host.Outcome State Fault Refusal :=
  if s.halted then .refused .coreHalted
  else countStep (exec (fetchInstr s) (advancePc (fetchInstr s) s))

/-- The state with the instruction `w` of `nbits` bits, operand bytes above them 0, stored at PC, so that the next step runs it.
The three bytes are placed as the host's loader places them (log 3, log 22). -/
def State.withFetchWord (s : State) (nbits w : Nat) : State :=
  placeBytes s.pc [tableByte nbits w 0, tableByte nbits w 1, tableByte nbits w 2] s

end Sys2Proof.Machine
end

