-- ==== Sys2Proof/Machine/Controller.lean ====
section
/-! DEFINITION. What the host does to the machine between runs (spec/70_reset_and_hazards.md R285 to R287, spec/20_memory.md R47,
R48, R59), and the run loop of the Execution Controller (spec/60_exceptions.md R259, R262). `reset(start_pc)` is `resetAt` in
Machine/Ops.lean and `step()` is `step`. -/

namespace Sys2Proof.Machine

/-! ## Loading and configuration -/

/-- `load_byte(addr, value)`: no read-only check, no notification (R59, R286); an argument out of range is caller misuse (log 19). -/
def loadByte (addr value : Nat) (s : State) : Result :=
  if addr < memSize ∧ value < 256 then .next (s.setMem (Memory.write s.mem addr (BitVec.ofNat 8 value)))
  else .refused .hostMisuse

/-- `set_read_only_boundary(addr)`, 0 to 0x10000 (R47, 00_scope.md R4; log 19). -/
def setReadOnlyBoundary (addr : Nat) (s : State) : Result :=
  if addr ≤ memSize then .next (s.setCfg { s.cfg with romBoundary := addr }) else .refused .hostMisuse

/-- Whether two inclusive ranges share an address. -/
def rangesMeet (r q : MmioRange) : Bool :=
  decide (max r.first.toNat q.first.toNat ≤ min r.last.toNat q.last.toNat)

/-- `set_memory_mapped_device(device, start, end)`: refused if the range overlaps a registered one (R48). -/
def setMemoryMappedDevice (device : Nat) (first last : Word) (s : State) : Result :=
  if s.cfg.mmio.any (rangesMeet ⟨first, last, device⟩) then .refused .overlappingRange
  else .next (s.setCfg { s.cfg with mmio := s.cfg.mmio ++ [⟨first, last, device⟩] })

/-- A port map with a handler for a port; a handler already registered for it is replaced (R287). -/
def mapPort (p : Byte) (handler : Nat) (m : List PortEntry) : List PortEntry :=
  ⟨p, handler⟩ :: m.filter (fun e => !(e.port == p))

/-- `add_input_device(port, handler)` (R287). -/
def addInputDevice (p : Byte) (handler : Nat) (s : State) : State :=
  s.setCfg { s.cfg with inDev := mapPort p handler s.cfg.inDev }

/-- `add_output_device(port, handler)` (R287). -/
def addOutputDevice (p : Byte) (handler : Nat) (s : State) : State :=
  s.setCfg { s.cfg with outDev := mapPort p handler s.cfg.outDev }

/-- `set_breakpoint(addr)` (60_exceptions.md R259). -/
def setBreakpoint (addr : Word) (s : State) : State := s.setCfg { s.cfg with watch := addr :: s.cfg.watch }

/-- `enable_trace(sink)` (60_exceptions.md R259; log 15, log 18). -/
def enableTrace (sink : Nat) (s : State) : State := s.setCfg { s.cfg with traceSink := some sink }

/-- The host sets `STACK_CHECK` (10_state.md R22; the document names no operation for it, log 7). -/
def setStackCheck (on : Bool) (s : State) : State := s.setCfg { s.cfg with stackCheck := on }

/-- The host supplies another `StackValid` (00_scope.md R4, 92_eei_decisions.md D21; log 7). -/
def setStackRegion (valid : List AddrRange) (s : State) : State := s.setCfg { s.cfg with stackValid := valid }

/-! ## The run loop (60_exceptions.md R262) -/

/-- The hooks at the PC: the breakpoint hook, and the trace hook if a sink is enabled (R259). -/
def hooksAt (s : State) : List Hook :=
  match s.cfg.traceSink with
  | some sink => [.breakpoint s.pc, .trace sink s.pc]
  | none => [.breakpoint s.pc]

/-- The hooks fire if PC is in the watch-set: diagnostic, no architectural effect (R262; log 18). -/
def fireHooks (s : State) : State := if s.pc ∈ s.cfg.watch then s.setHookLog (s.hookLog ++ hooksAt s) else s

/-- At most `n` turns of the loop: while not halted, fire the hooks and execute one step. -/
def runLoop : Nat → State → Result
  | 0, s => .next s
  | n + 1, s =>
    if s.halted then .next s
    else
      match step (fireHooks s) with
      | .next t => runLoop n t
      | .fault r => .fault r
      | .refused r => .refused r

/-- `run(step_limit)` from `s` ends in `t`: with a budget, after at most that many steps; with 0, only when the core halts, which
need not happen (R262, 93_implementation_defined.md U19; log 17). -/
def RunEnds (stepLimit : Nat) (s t : State) : Prop :=
  if stepLimit = 0 then (∃ n, runLoop n s = .next t) ∧ t.halted = true else runLoop stepLimit s = .next t

end Sys2Proof.Machine
end

