-- ==== Sys2Proof/Safety.lean ====
section
/-! DEFINITION. The terms the statements use: the invariant of the machine, what a store and a stack access leave, which parts of
a state an instruction keeps. Each is written from the spec's rules through the model's reads, not from the meanings. -/

namespace Sys2Proof.Machine

/-! ## Reading an answer -/

/-- The next state of an answer, if it is one. -/
def next? (o : Result) : Option State :=
  match o with
  | .next s => some s
  | .fault _ => none
  | .refused _ => none

/-! ## The invariant -/

/-- Bit 1 of F is 1, bits 3 and 5 are 0 (10_state.md R15). -/
def fixedBits (f : Byte) : Prop := f.getLsbD 1 = true ∧ f.getLsbD 3 = false ∧ f.getLsbD 5 = false

/-- Registered ranges are pairwise disjoint (00_scope.md R4, 20_memory.md R48). -/
def disjointRanges (rs : List MmioRange) : Prop := rs.Pairwise (fun r q => rangesMeet r q = false)

/-- What holds in every state of a run. -/
structure State.Inv (s : State) : Prop where
  /-- Memory is in its canonical form. -/
  memory : Memory.wf s.mem = true
  /-- The fixed bits of F (10_state.md R15). -/
  flags : fixedBits s.f
  /-- `halted` and `halt_cause` are written together (10_state.md R21). -/
  cause : s.halted = true ↔ s.haltCause ≠ .none
  /-- `ROM_BOUNDARY` is in its range (00_scope.md R4). -/
  boundary : s.cfg.romBoundary ≤ memSize
  /-- Device ranges are disjoint (20_memory.md R48). -/
  ranges : disjointRanges s.cfg.mmio
  /-- A port is logged at most once (20_memory.md R55). -/
  logged : s.loggedPorts.Nodup

/-! ## What is kept -/

/-- Every byte of memory reads as before. -/
def SameMemory (s t : State) : Prop := ∀ x : Word, memRead t x = memRead s x

/-- Every byte of memory outside the listed addresses reads as before. -/
def SameMemoryBut (addrs : List Word) (s t : State) : Prop := ∀ x : Word, x ∉ addrs → memRead t x = memRead s x

/-- Every general register outside the listed ones reads as before. -/
def SameRegsBut (rs : List Reg) (s t : State) : Prop := ∀ r : Reg, r ∉ rs → t.reg r = s.reg r

/-- The halt flag and cause are as before. -/
def SameHalt (s t : State) : Prop := t.halted = s.halted ∧ t.haltCause = s.haltCause

/-- What no instruction that only computes touches: the counter, the configuration, the diagnostic state, the record of events,
the input oracle and the free values. -/
def SameRest (s t : State) : Prop :=
  t.icount = s.icount ∧ t.cfg = s.cfg ∧ t.shadow = s.shadow ∧ t.loggedPorts = s.loggedPorts ∧ t.hookLog = s.hookLog ∧
    t.events = s.events ∧ t.inputs = s.inputs ∧ t.freeCount = s.freeCount

/-- Only the listed registers, and F, may differ: the frame of an instruction that stores nothing, halts nothing and does not
transfer control. -/
def OnlyRegsAndF (rs : List Reg) (s t : State) : Prop :=
  SameRegsBut rs s t ∧ t.sp = s.sp ∧ t.pc = s.pc ∧ SameHalt s t ∧ SameMemory s t ∧ SameRest s t

/-- Nothing but Carry differs between two flags bytes. -/
def OnlyCarry (f g : Byte) : Prop := ∀ i, i ≠ 0 → g.getLsbD i = f.getLsbD i

/-- The reserved bits of two flags bytes are the same. -/
def SameReserved (f g : Byte) : Prop :=
  g.getLsbD 1 = f.getLsbD 1 ∧ g.getLsbD 3 = f.getLsbD 3 ∧ g.getLsbD 5 = f.getLsbD 5

/-- S, Z and P are those of an 8-bit result (40_flags_alu.md R123). -/
def FlagsOfResult (v f : Byte) : Prop :=
  (flagS f = true ↔ 128 ≤ v.toNat) ∧ (flagZ f = true ↔ v = 0) ∧
    (flagP f = true ↔ ((List.range 8).countP fun i => v.getLsbD i) % 2 = 0)

/-! ## What a raise and a store leave -/

/-- `halted` is 1 and the first cause is kept (60_exceptions.md R241). -/
def Halts (x : HaltCause) (s t : State) : Prop :=
  t.halted = true ∧ t.haltCause = if s.haltCause = .none then x else s.haltCause

/-- The notification a store to `a` makes (20_memory.md R44, R48): one for the device whose range holds `a`, if any. -/
def notices (s : State) (a : Word) (old new : Byte) : List Event :=
  match s.cfg.mmio.find? (fun r => decide (r.first ≤ a ∧ a ≤ r.last)) with
  | some r => [.onWrite r.device a old new]
  | none => []

/-- What `MemWrite(a, 1, v)` leaves (20_memory.md R44, 60_exceptions.md R244): below the boundary the byte is kept, the core halts
with the refused byte and no device is notified; else the byte is written and the device notified. Every other byte and every
other part of the state is kept. -/
def StoredByte (a : Word) (v : Byte) (s t : State) : Prop :=
  SameMemoryBut [a] s t ∧
    t = { s with mem := t.mem, halted := t.halted, haltCause := t.haltCause, events := t.events } ∧
    if a.toNat < s.cfg.romBoundary then
      memRead t a = memRead s a ∧ Halts (.readOnlyViolation a v) s t ∧ t.events = s.events
    else
      memRead t a = v ∧ SameHalt s t ∧ t.events = s.events ++ notices s a (memRead s a) v

/-- What a 16-bit store leaves: its low byte at `a`, then its high byte at `a + 1` (20_memory.md R46). -/
def StoredWord (a w : Word) (s t : State) : Prop :=
  ∃ u, StoredByte a (lo8 w) s u ∧ StoredByte (a + 1) (hi8 w) u t

/-- Whether a stack byte access at `a` faults: the check is on and no valid range holds `a` (60_exceptions.md R243). -/
def StackFaultAt (s : State) (a : Word) : Prop :=
  s.cfg.stackCheck = true ∧ ∀ r ∈ s.cfg.stackValid, ¬(r.first ≤ a ∧ a ≤ r.last)

/-- What one byte of a push leaves (43_family11_control_stack.md R190). -/
def StackStored (a : Word) (v : Byte) (s t : State) : Prop :=
  (StackFaultAt s a → t = { s with halted := t.halted, haltCause := t.haltCause } ∧ Halts (.stackFault a) s t) ∧
    (¬StackFaultAt s a → StoredByte a v s t)

/-- What a push leaves: SP is 2 less, then the low byte goes to SP and the high byte to SP + 1 (R190). -/
def Pushed (w : Word) (s t : State) : Prop :=
  ∃ u, StackStored (s.sp - 2) (lo8 w) { s with sp := s.sp - 2 } u ∧ StackStored (s.sp - 2 + 1) (hi8 w) u t

/-- No stack byte access at `a` faults and a store there is not refused. -/
def StackWritable (s : State) (a : Word) : Prop := ¬StackFaultAt s a ∧ s.cfg.romBoundary ≤ a.toNat

/-- What a pop of `w` leaves: SP is 2 more; each byte is the one in memory unless its access faults, when it is any byte and the
core halts, the access at SP first (43_family11_control_stack.md R191, 60_exceptions.md R243, R248). -/
def Popped (w : Word) (s t : State) : Prop :=
  t = { s with sp := s.sp + 2, halted := t.halted, haltCause := t.haltCause, freeCount := t.freeCount } ∧
    (¬StackFaultAt s s.sp → lo8 w = memRead s s.sp) ∧
    (¬StackFaultAt s (s.sp + 1) → hi8 w = memRead s (s.sp + 1)) ∧
    (¬StackFaultAt s s.sp → ¬StackFaultAt s (s.sp + 1) → SameHalt s t ∧ t.freeCount = s.freeCount) ∧
    (StackFaultAt s s.sp → Halts (.stackFault s.sp) s t) ∧
    (¬StackFaultAt s s.sp → StackFaultAt s (s.sp + 1) → Halts (.stackFault (s.sp + 1)) s t)

/-! ## What the ALU, the pair instructions and the transfers leave -/

/-- The effect of an addition of `v` and the carry-in `cin` to A (40_flags_alu.md R104): the sum mod 256, C the carry out of bit 7,
AC the carry out of bit 3. -/
def Added (v : Byte) (cin : Bool) (s t : State) : Prop :=
  t.a.toNat = (s.a.toNat + v.toNat + cin.toNat) % 256 ∧ FlagsOfResult t.a t.f ∧
    (flagC t.f = true ↔ 256 ≤ s.a.toNat + v.toNat + cin.toNat) ∧
    (flagAC t.f = true ↔ 16 ≤ s.a.toNat % 16 + v.toNat % 16 + cin.toNat) ∧
    SameReserved s.f t.f ∧ OnlyRegsAndF [.a] s t

/-- The flags of the subtraction of `v` and the borrow-in `cin` from A, whose result is `d` (40_flags_alu.md R105): C is 1 exactly
on a borrow, AC is 1 exactly when the low nibble did not borrow. -/
def BorrowFlags (v : Byte) (cin : Bool) (d : Byte) (s t : State) : Prop :=
  d.toNat = (s.a.toNat + 512 - v.toNat - cin.toNat) % 256 ∧ FlagsOfResult d t.f ∧
    (flagC t.f = true ↔ s.a.toNat < v.toNat + cin.toNat) ∧
    (flagAC t.f = true ↔ v.toNat % 16 + cin.toNat ≤ s.a.toNat % 16) ∧
    SameReserved s.f t.f

/-- The effect of SUB and SBB. -/
def Subtracted (v : Byte) (cin : Bool) (s t : State) : Prop := BorrowFlags v cin t.a s t ∧ OnlyRegsAndF [.a] s t

/-- The effect of CMP: the flags of SUB, A kept. -/
def Compared (v : Byte) (s t : State) : Prop := (∃ d, BorrowFlags v false d s t) ∧ OnlyRegsAndF [] s t

/-- The effect of a bitwise operation with result `r`: S, Z, P from it, C cleared (40_flags_alu.md R110 to R112). -/
def Bitwise (r : Byte) (s t : State) : Prop :=
  t.a = r ∧ FlagsOfResult r t.f ∧ flagC t.f = false ∧ SameReserved s.f t.f ∧ OnlyRegsAndF [.a] s t

/-- The registers of a pair. -/
def pairRegs : Pair → List Reg
  | .bc => [.b, .c]
  | .de => [.d, .e]
  | .hl => [.h, .l]
  | .sp => []

/-- Pair `p` is written with `w`, and nothing else but F. -/
def PairSet (p : Pair) (w : Word) (s t : State) : Prop :=
  rp p t = w ∧ SameRegsBut (pairRegs p) s t ∧ (p ≠ .sp → t.sp = s.sp) ∧ t.pc = s.pc ∧ SameHalt s t ∧ SameMemory s t ∧
    SameRest s t

/-- The effect of a rotate: A and Carry, nothing else (42_family00.md R165 to R168). -/
def Rotated (s t : State) : Prop := OnlyCarry s.f t.f ∧ OnlyRegsAndF [.a] s t

/-- A call of `target`: the return address is pushed and PC is the target; the diagnostic shadow stack aside (R197). -/
def Called (target : Word) (s t : State) : Prop :=
  ∃ u, Pushed s.pc s u ∧ t = { u with pc := target, shadow := t.shadow }

/-- A return: PC is the popped address; the diagnostic shadow stack aside (R198). -/
def Returned (s t : State) : Prop := ∃ w u, Popped w s u ∧ t = { u with pc := w, shadow := t.shadow }

/-- Instruction `i` has the effect `taken` when `c` holds, and does nothing when it does not (R193 to R195). -/
def Conditionally (i : Instr) (c : Prop) (taken : State → State → Prop) (s : State) : Prop :=
  (c → ∃ t, exec i s = .next t ∧ taken s t) ∧ (¬c → exec i s = .next s)

/-! ## Which instructions may do what (the tables of the spec) -/

/-- The register a selector writes, if it is one. -/
def selRegs : Sel → List Reg
  | .reg r => [r]
  | .m => []

/-- The instructions that store to memory (20_memory.md R44, 60_exceptions.md R244). -/
def storesMemory : Instr → Bool
  | .mov o _ | .mvi o _ | .inr o | .dcr o => selRegs o = []
  | .stax _ | .sta _ | .shld _ | .pushB | .pushD | .pushH | .pushPsw
  | .call _ | .cnz _ | .cz _ | .cnc _ | .cc _ | .cpo _ | .cpe _ | .cp _ | .cm _ | .rst _ | .xthl => true
  | .nop | .lxi _ _ | .dad _ | .ldax _ | .lhld _ | .lda _ | .inx _ | .dcx _ | .rlc | .rrc | .ral | .rar | .daa | .cma
  | .stc | .cmc | .hlt | .add _ | .adc _ | .sub _ | .sbb _ | .ana _ | .xra _ | .ora _ | .cmp _ | .rnz | .rz | .rnc | .rc
  | .rpo | .rpe | .rp | .rm | .jnz _ | .jz _ | .jnc _ | .jc _ | .jpo _ | .jpe _ | .jp _ | .jm _ | .jmp _ | .ret | .pchl
  | .popB | .popD | .popH | .popPsw | .sphl | .xchg | .adi _ | .aci _ | .sui _ | .sbi _ | .ani _ | .xri _ | .ori _
  | .cpi _ | .inPort _ | .outPort _ | .unmatched08 | .unmatched10 | .unmatched18 | .unmatched20 | .unmatched28
  | .unmatched30 | .unmatched38 | .unmatchedCB | .unmatchedD9 | .unmatchedDD | .unmatchedED | .unmatchedFD | .unmatchedF3
  | .unmatchedFB => false

/-- The instructions that go through the stack primitives `Push16` and `Pop16` (60_exceptions.md R240). -/
def usesStack : Instr → Bool
  | .pushB | .pushD | .pushH | .pushPsw | .popB | .popD | .popH | .popPsw | .call _ | .ret | .rst _
  | .cnz _ | .cz _ | .cnc _ | .cc _ | .cpo _ | .cpe _ | .cp _ | .cm _
  | .rnz | .rz | .rnc | .rc | .rpo | .rpe | .rp | .rm => true
  | .nop | .lxi _ _ | .dad _ | .stax _ | .ldax _ | .shld _ | .lhld _ | .sta _ | .lda _ | .inx _ | .dcx _ | .inr _
  | .dcr _ | .mvi _ _ | .rlc | .rrc | .ral | .rar | .daa | .cma | .stc | .cmc | .mov _ _ | .hlt | .add _ | .adc _
  | .sub _ | .sbb _ | .ana _ | .xra _ | .ora _ | .cmp _ | .jnz _ | .jz _ | .jnc _ | .jc _ | .jpo _ | .jpe _ | .jp _
  | .jm _ | .jmp _ | .pchl | .xthl | .sphl | .xchg | .adi _ | .aci _ | .sui _ | .sbi _ | .ani _ | .xri _ | .ori _
  | .cpi _ | .inPort _ | .outPort _ | .unmatched08 | .unmatched10 | .unmatched18 | .unmatched20 | .unmatched28
  | .unmatched30 | .unmatched38 | .unmatchedCB | .unmatchedD9 | .unmatchedDD | .unmatchedED | .unmatchedFD | .unmatchedF3
  | .unmatchedFB => false

/-- The 14 unmatched first bytes (30_encoding.md R77). -/
def isUnmatched : Instr → Bool
  | .unmatched08 | .unmatched10 | .unmatched18 | .unmatched20 | .unmatched28 | .unmatched30 | .unmatched38
  | .unmatchedCB | .unmatchedD9 | .unmatchedDD | .unmatchedED | .unmatchedFD | .unmatchedF3 | .unmatchedFB => true
  | .nop | .lxi _ _ | .dad _ | .stax _ | .ldax _ | .shld _ | .lhld _ | .sta _ | .lda _ | .inx _ | .dcx _ | .inr _
  | .dcr _ | .mvi _ _ | .rlc | .rrc | .ral | .rar | .daa | .cma | .stc | .cmc | .mov _ _ | .hlt | .add _ | .adc _
  | .sub _ | .sbb _ | .ana _ | .xra _ | .ora _ | .cmp _ | .rnz | .rz | .rnc | .rc | .rpo | .rpe | .rp | .rm | .jnz _
  | .jz _ | .jnc _ | .jc _ | .jpo _ | .jpe _ | .jp _ | .jm _ | .cnz _ | .cz _ | .cnc _ | .cc _ | .cpo _ | .cpe _ | .cp _
  | .cm _ | .jmp _ | .call _ | .ret | .rst _ | .pchl | .popB | .popD | .popH | .popPsw | .pushB | .pushD | .pushH
  | .pushPsw | .xthl | .sphl | .xchg | .adi _ | .aci _ | .sui _ | .sbi _ | .ani _ | .xri _ | .ori _ | .cpi _ | .inPort _
  | .outPort _ => false

/-- The general registers an instruction may write (10_state.md R12). -/
def writesRegs : Instr → List Reg
  | .mov d _ => selRegs d
  | .mvi o _ | .inr o | .dcr o => selRegs o
  | .add _ | .adc _ | .sub _ | .sbb _ | .ana _ | .xra _ | .ora _ | .adi _ | .aci _ | .sui _ | .sbi _ | .ani _ | .xri _ | .ori _
  | .ldax _ | .lda _ | .inPort _ | .rlc | .rrc | .ral | .rar | .daa | .cma | .popPsw => [.a]
  | .lxi p _ | .inx p | .dcx p => pairRegs p
  | .dad _ | .lhld _ | .xthl | .popH => [.h, .l]
  | .popB => [.b, .c]
  | .popD => [.d, .e]
  | .xchg => [.d, .e, .h, .l]
  | .nop | .stax _ | .shld _ | .sta _ | .stc | .cmc | .hlt | .cmp _ | .rnz | .rz | .rnc | .rc | .rpo | .rpe | .rp | .rm
  | .jnz _ | .jz _ | .jnc _ | .jc _ | .jpo _ | .jpe _ | .jp _ | .jm _ | .cnz _ | .cz _ | .cnc _ | .cc _ | .cpo _ | .cpe _
  | .cp _ | .cm _ | .jmp _ | .call _ | .ret | .rst _ | .pchl | .pushB | .pushD | .pushH | .pushPsw | .sphl | .cpi _
  | .outPort _ | .unmatched08 | .unmatched10 | .unmatched18 | .unmatched20 | .unmatched28 | .unmatched30 | .unmatched38
  | .unmatchedCB | .unmatchedD9 | .unmatchedDD | .unmatchedED | .unmatchedFD | .unmatchedF3 | .unmatchedFB => []

/-- The instructions that may write SP (10_state.md R16). -/
def writesSp : Instr → Bool
  | .lxi p _ | .inx p | .dcx p => p = .sp
  | .sphl | .rnz | .rz | .rnc | .rc | .rpo | .rpe | .rp | .rm | .cnz _ | .cz _ | .cnc _ | .cc _ | .cpo _ | .cpe _ | .cp _
  | .cm _ | .call _ | .ret | .rst _ | .popB | .popD | .popH | .popPsw | .pushB | .pushD | .pushH | .pushPsw => true
  | .nop | .dad _ | .stax _ | .ldax _ | .shld _ | .lhld _ | .sta _ | .lda _ | .inr _ | .dcr _ | .mvi _ _ | .rlc | .rrc
  | .ral | .rar | .daa | .cma | .stc | .cmc | .mov _ _ | .hlt | .add _ | .adc _ | .sub _ | .sbb _ | .ana _ | .xra _
  | .ora _ | .cmp _ | .jnz _ | .jz _ | .jnc _ | .jc _ | .jpo _ | .jpe _ | .jp _ | .jm _ | .jmp _ | .pchl | .xthl | .xchg
  | .adi _ | .aci _ | .sui _ | .sbi _ | .ani _ | .xri _ | .ori _ | .cpi _ | .inPort _ | .outPort _ | .unmatched08
  | .unmatched10 | .unmatched18 | .unmatched20 | .unmatched28 | .unmatched30 | .unmatched38 | .unmatchedCB | .unmatchedD9
  | .unmatchedDD | .unmatchedED | .unmatchedFD | .unmatchedF3 | .unmatchedFB => false

/-- The instructions that may transfer control (10_state.md R18). -/
def transfersControl : Instr → Bool
  | .jmp _ | .call _ | .ret | .rst _ | .pchl
  | .jnz _ | .jz _ | .jnc _ | .jc _ | .jpo _ | .jpe _ | .jp _ | .jm _
  | .cnz _ | .cz _ | .cnc _ | .cc _ | .cpo _ | .cpe _ | .cp _ | .cm _
  | .rnz | .rz | .rnc | .rc | .rpo | .rpe | .rp | .rm => true
  | .nop | .lxi _ _ | .dad _ | .stax _ | .ldax _ | .shld _ | .lhld _ | .sta _ | .lda _ | .inx _ | .dcx _ | .inr _
  | .dcr _ | .mvi _ _ | .rlc | .rrc | .ral | .rar | .daa | .cma | .stc | .cmc | .mov _ _ | .hlt | .add _ | .adc _
  | .sub _ | .sbb _ | .ana _ | .xra _ | .ora _ | .cmp _ | .popB | .popD | .popH | .popPsw | .pushB | .pushD | .pushH
  | .pushPsw | .xthl | .sphl | .xchg | .adi _ | .aci _ | .sui _ | .sbi _ | .ani _ | .xri _ | .ori _ | .cpi _ | .inPort _
  | .outPort _ | .unmatched08 | .unmatched10 | .unmatched18 | .unmatched20 | .unmatched28 | .unmatched30 | .unmatched38
  | .unmatchedCB | .unmatchedD9 | .unmatchedDD | .unmatchedED | .unmatchedFD | .unmatchedF3 | .unmatchedFB => false

/-- The instructions that may write S, Z and P: the sixteen ALU forms, INR, DCR, DAA and POP PSW (10_state.md R14). -/
def writesSZP : Instr → Bool
  | .add _ | .adc _ | .sub _ | .sbb _ | .ana _ | .xra _ | .ora _ | .cmp _ | .adi _ | .aci _ | .sui _ | .sbi _ | .ani _
  | .xri _ | .ori _ | .cpi _ | .inr _ | .dcr _ | .daa | .popPsw => true
  | .nop | .lxi _ _ | .dad _ | .stax _ | .ldax _ | .shld _ | .lhld _ | .sta _ | .lda _ | .inx _ | .dcx _ | .mvi _ _
  | .rlc | .rrc | .ral | .rar | .cma | .stc | .cmc | .mov _ _ | .hlt | .rnz | .rz | .rnc | .rc | .rpo | .rpe | .rp | .rm
  | .jnz _ | .jz _ | .jnc _ | .jc _ | .jpo _ | .jpe _ | .jp _ | .jm _ | .cnz _ | .cz _ | .cnc _ | .cc _ | .cpo _ | .cpe _
  | .cp _ | .cm _ | .jmp _ | .call _ | .ret | .rst _ | .pchl | .popB | .popD | .popH | .pushB | .pushD | .pushH
  | .pushPsw | .xthl | .sphl | .xchg | .inPort _ | .outPort _ | .unmatched08 | .unmatched10 | .unmatched18 | .unmatched20
  | .unmatched28 | .unmatched30 | .unmatched38 | .unmatchedCB | .unmatchedD9 | .unmatchedDD | .unmatchedED | .unmatchedFD
  | .unmatchedF3 | .unmatchedFB => false

/-- The instructions that may write Carry: the sixteen ALU forms, DAD, the rotates, DAA, STC, CMC and POP PSW (10_state.md R14). -/
def writesC : Instr → Bool
  | .add _ | .adc _ | .sub _ | .sbb _ | .ana _ | .xra _ | .ora _ | .cmp _ | .adi _ | .aci _ | .sui _ | .sbi _ | .ani _
  | .xri _ | .ori _ | .cpi _ | .dad _ | .rlc | .rrc | .ral | .rar | .daa | .stc | .cmc | .popPsw => true
  | .nop | .lxi _ _ | .stax _ | .ldax _ | .shld _ | .lhld _ | .sta _ | .lda _ | .inx _ | .dcx _ | .inr _ | .dcr _
  | .mvi _ _ | .cma | .mov _ _ | .hlt | .rnz | .rz | .rnc | .rc | .rpo | .rpe | .rp | .rm | .jnz _ | .jz _ | .jnc _
  | .jc _ | .jpo _ | .jpe _ | .jp _ | .jm _ | .cnz _ | .cz _ | .cnc _ | .cc _ | .cpo _ | .cpe _ | .cp _ | .cm _ | .jmp _
  | .call _ | .ret | .rst _ | .pchl | .popB | .popD | .popH | .pushB | .pushD | .pushH | .pushPsw | .xthl | .sphl | .xchg
  | .inPort _ | .outPort _ | .unmatched08 | .unmatched10 | .unmatched18 | .unmatched20 | .unmatched28 | .unmatched30
  | .unmatched38 | .unmatchedCB | .unmatchedD9 | .unmatchedDD | .unmatchedED | .unmatchedFD | .unmatchedF3 | .unmatchedFB => false

/-- The instructions that may write Auxiliary-Carry: those that may write S, but for ANA, ORA, ANI and ORI (10_state.md R14). -/
def writesAC : Instr → Bool
  | .add _ | .adc _ | .sub _ | .sbb _ | .xra _ | .cmp _ | .adi _ | .aci _ | .sui _ | .sbi _ | .xri _ | .cpi _ | .inr _
  | .dcr _ | .daa | .popPsw => true
  | .nop | .lxi _ _ | .dad _ | .stax _ | .ldax _ | .shld _ | .lhld _ | .sta _ | .lda _ | .inx _ | .dcx _ | .mvi _ _
  | .rlc | .rrc | .ral | .rar | .cma | .stc | .cmc | .mov _ _ | .hlt | .ana _ | .ora _ | .rnz | .rz | .rnc | .rc | .rpo
  | .rpe | .rp | .rm | .jnz _ | .jz _ | .jnc _ | .jc _ | .jpo _ | .jpe _ | .jp _ | .jm _ | .cnz _ | .cz _ | .cnc _
  | .cc _ | .cpo _ | .cpe _ | .cp _ | .cm _ | .jmp _ | .call _ | .ret | .rst _ | .pchl | .popB | .popD | .popH | .pushB
  | .pushD | .pushH | .pushPsw | .xthl | .sphl | .xchg | .ani _ | .ori _ | .inPort _ | .outPort _ | .unmatched08
  | .unmatched10 | .unmatched18 | .unmatched20 | .unmatched28 | .unmatched30 | .unmatched38 | .unmatchedCB | .unmatchedD9
  | .unmatchedDD | .unmatchedED | .unmatchedFD | .unmatchedF3 | .unmatchedFB => false

/-! ## Diagnostic state -/

/-- Two states that agree on everything but the diagnostic state of 10_state.md R30, the hook record, the watch-set and the trace
sink. -/
def SameButDiagnostics (s t : State) : Prop :=
  t = { s with
    shadow := t.shadow, loggedPorts := t.loggedPorts, hookLog := t.hookLog,
    cfg := { s.cfg with watch := t.cfg.watch, traceSink := t.cfg.traceSink } }

end Sys2Proof.Machine
end

