-- ==== Sys2Proof/Certificates/Slice0/Obligations.lean ====
section
/-! DEFINITION. The statements about the model, for the provers. Each docstring names the rules of spec/ a statement rests on; a
clause that is the model's choice or a decision the spec marks as its own says so. OBLIGATIONS.json lists them. -/

open Sys2Proof Sys2Proof.Machine

/-! ## Encoding -/

/-- Decoding the encoding of any instruction the hardware has gives that instruction and the bytes after it (R70 to R76; opcode
numbers from general knowledge, log 9). -/
def Obligations.DecodeOfEncodeIsTheInstruction : Prop :=
  ∀ (i : Instr) (rest : List Byte), i.wellFormed = true → decodeBytes (encode i ++ rest) = .ok (i, rest)

/-- Every three bytes decode to an instruction the hardware has, and encoding it gives back as many of them as it is long
(R70, R76, R78). -/
def Obligations.EncodeOfDecodeIsTheBytes : Prop :=
  ∀ b0 b1 b2 : Byte, (decode b0 b1 b2).wellFormed = true ∧
    encode (decode b0 b1 b2) = [b0, b1, b2].take (decode b0 b1 b2).length

/-- Words written out from the spec's encodings, one or more of each family, decode to their instructions; the first three are the
document's own bytes (R81, R76). -/
def Obligations.WordsOfEachFamilyDecode : Prop :=
  decode 0xC5 0xD1 0x76 = .pushB ∧ decode 0xD1 0x76 0 = .popD ∧ decode 0x76 0 0 = .hlt ∧
    decode 0x21 0x34 0x12 = .lxi .hl 0x1234 ∧ decode 0x36 0xFF 0 = .mvi .m 0xFF ∧ decode 0x1A 0 0 = .ldax .de ∧
    decode 0x4E 0 0 = .mov (.reg .c) .m ∧ decode 0x9D 0 0 = .sbb (.reg .l) ∧ decode 0xFE 0x40 0 = .cpi 0x40 ∧
    decode 0xD4 0x00 0x20 = .cnc 0x2000 ∧ decode 0xDF 0 0 = .rst 3 ∧ decode 0xDB 0x10 0 = .inPort 0x10 ∧
    decode 0xCB 0x34 0x12 = .unmatchedCB

/-! ## The step -/

/-- When the core is not halted and the bytes at PC decode to an instruction of the hardware, a step is that instruction's effect
with PC moved past its bytes, and then `icount` goes up by 1 (R74; PC first is decision D16, the count is decision D24). -/
def Obligations.StepRunsTheDecodedInstruction : Prop :=
  ∀ (s : State) (i : Instr) (rest : List Byte), s.halted = false → i.wellFormed = true →
    decodeBytes [memRead s s.pc, memRead s (s.pc + 1), memRead s (s.pc + 2)] = .ok (i, rest) →
    step s = match exec i { s with pc := s.pc + BitVec.ofNat 16 i.length } with
      | .next t => .next { t with icount := t.icount + 1 }
      | .fault r => .fault r
      | .refused r => .refused r

/-- A halted core has no step (R261, decision D27); on a core that is not halted every step answers a next state, which counts the
step and keeps the configuration and the hook record: no instruction, fault or unmatched byte stops the machine otherwise (R19, R22,
R240; the count is decision D24). -/
def Obligations.EveryStepCompletesUnlessHalted : Prop :=
  ∀ s : State, (s.halted = true → step s = .refused .coreHalted) ∧
    (s.halted = false → ∃ t, step s = .next t ∧ t.icount = s.icount + 1 ∧ t.cfg = s.cfg ∧ t.hookLog = s.hookLog)

/-- The machine after reset meets the invariant. -/
def Obligations.ResetMeetsTheInvariant : Prop := State.reset.Inv

/-- Every step keeps the invariant: canonical memory, the fixed bits of F (R15), `halted` and its cause together (R21), the boundary
in range, device ranges disjoint, a port logged at most once (R55). -/
def Obligations.StepKeepsTheInvariant : Prop := ∀ s t : State, s.Inv → step s = .next t → t.Inv

/-- The read-only boundary (R47). A step changes no byte below it and not the boundary itself; a store below it halts the core and
changes nothing in memory, a store at or above it always lands; with 0 every store lands, with 0x10000 none; the host sets it. -/
def Obligations.ReadOnlyBoundaryProtects : Prop :=
  (∀ (s t : State) (a : Word), step s = .next t → a.toNat < s.cfg.romBoundary → memRead t a = memRead s a) ∧
    (∀ s t : State, step s = .next t → t.cfg.romBoundary = s.cfg.romBoundary) ∧
    (∀ (s : State) (a : Word) (v : Byte), a.toNat < s.cfg.romBoundary →
      (memWrite a v s).halted = true ∧ SameMemory s (memWrite a v s)) ∧
    (∀ (s : State) (a : Word) (v : Byte), s.cfg.romBoundary ≤ a.toNat →
      memRead (memWrite a v s) a = v ∧ SameHalt s (memWrite a v s)) ∧
    (∀ (s : State) (a : Word) (v : Byte), s.cfg.romBoundary = 0 → memRead (memWrite a v s) a = v) ∧
    (∀ (s : State) (a : Word) (v : Byte), s.cfg.romBoundary = 0x10000 → SameMemory s (memWrite a v s)) ∧
    ∀ (s : State) (n : Nat), n ≤ 0x10000 →
      setReadOnlyBoundary n s = .next { s with cfg := { s.cfg with romBoundary := n } }

/-- No instruction clears the halt flag or replaces a recorded cause (R20, R241). -/
def Obligations.NoInstructionResumesOrRecauses : Prop :=
  ∀ (i : Instr) (s t : State), exec i s = .next t →
    (s.halted = true → t.halted = true) ∧ (s.haltCause ≠ .none → t.haltCause = s.haltCause)

/-- Which instructions raise which fault, and no other halts the core (R240, R246). -/
def Obligations.EachHaltCauseHasItsInstructions : Prop :=
  ∀ (i : Instr) (s t : State), s.halted = false → s.haltCause = .none → exec i s = .next t →
    match t.haltCause with
    | .none => t.halted = false
    | .hltInstruction => i = .hlt ∧ t.halted = true
    | .unimplementedOpcode _ _ => isUnmatched i = true ∧ t.halted = true
    | .stackFault a => usesStack i = true ∧ t.halted = true ∧ StackFaultAt s a
    | .readOnlyViolation a _ => storesMemory i = true ∧ t.halted = true ∧ a.toNat < s.cfg.romBoundary
    | .endOfInput p => i = .inPort p ∧ t.halted = true

/-- With every address a valid stack address, which is the value the spec gives `StackValid`, or with the check off, no step raises
a stack fault (R243; the value is decision D21). -/
def Obligations.FullStackRegionNeverFaults : Prop :=
  ∀ s t : State, (s.cfg.stackCheck = false ∨ ∀ a, ∃ r ∈ s.cfg.stackValid, r.first ≤ a ∧ a ≤ r.last) →
    s.haltCause = .none → step s = .next t → ∀ a, t.haltCause ≠ .stackFault a

/-- Only the storing instructions change memory (R12, R44). -/
def Obligations.OnlyStoresChangeMemory : Prop :=
  ∀ (i : Instr) (s t : State), exec i s = .next t → storesMemory i = false → SameMemory s t

/-- The general registers each instruction may write (the table of R12). -/
def Obligations.RegistersWrittenAsTabled : Prop :=
  ∀ (i : Instr) (s t : State), exec i s = .next t → SameRegsBut (writesRegs i) s t

/-- SP is written only by the stack instructions, LXI SP, INX SP, DCX SP and SPHL, and control is transferred only by jumps, calls,
returns, RST and PCHL (R16, R18). -/
def Obligations.SpAndPcWrittenAsTabled : Prop :=
  ∀ (i : Instr) (s t : State), exec i s = .next t →
    (writesSp i = false → t.sp = s.sp) ∧ (transfersControl i = false → t.pc = s.pc)

/-- The instructions that may write each flag, and that every other leaves it (the table of R14; "unchanged" for the rest is decision
D34). -/
def Obligations.FlagsWrittenAsTabled : Prop :=
  ∀ (i : Instr) (s t : State), exec i s = .next t →
    (writesSZP i = false → flagS t.f = flagS s.f ∧ flagZ t.f = flagZ s.f ∧ flagP t.f = flagP s.f) ∧
    (writesAC i = false → flagAC t.f = flagAC s.f) ∧
    (writesC i = false → flagC t.f = flagC s.f) ∧
    (writesSZP i = false → writesC i = false → t.f = s.f)

/-- The record of events only grows; only OUT adds a port write, only IN a port read, only a storing instruction a notification
(R8, R25, R43). -/
def Obligations.EventsAppendOnlyAsTabled : Prop :=
  ∀ (i : Instr) (s t : State), exec i s = .next t →
    ∃ es, t.events = s.events ++ es ∧ ∀ e ∈ es,
      match e with
      | .portOut _ p v => i = .outPort p ∧ v = s.a
      | .portIn _ p seen _ => i = .inPort p ∧ seen = s.view
      | .onWrite _ _ _ _ => storesMemory i = true

/-- The diagnostic state never affects the machine: two states that differ in it only take steps to states that differ in it only
(R30, R260). -/
def Obligations.DiagnosticsNeverAffectTheMachine : Prop :=
  ∀ s s' t : State, SameButDiagnostics s s' → step s = .next t → ∃ t', step s' = .next t' ∧ SameButDiagnostics t t'

/-- A store at or above the boundary is seen by the next fetch, in the opcode byte and in both operand bytes, which wrap past the end
of memory; a store anywhere else leaves what is fetched (R62, R289). -/
def Obligations.FetchSeesTheStoredByte : Prop :=
  ∀ (s : State) (a : Word) (v : Byte), s.cfg.romBoundary ≤ a.toNat →
    fetchInstr (memWrite a v s) = decode (if a = s.pc then v else memRead s s.pc)
      (if a = s.pc + 1 then v else memRead s (s.pc + 1)) (if a = s.pc + 2 then v else memRead s (s.pc + 2))

/-! ## Operands -/

/-- Reading and writing the operand a selector names: a register, or the byte at HL, whose write is a store like any other
(R140, R141). -/
def Obligations.SelectorReadsAndWritesItsOperand : Prop :=
  ∀ (s : State) (v : Byte),
    (∀ r, opnd (.reg r) s = s.reg r) ∧ opnd .m s = memRead s (wordOf s.h s.l) ∧
    (∀ r, (setOpnd (.reg r) v s).reg r = v ∧ (setOpnd (.reg r) v s).f = s.f ∧ OnlyRegsAndF [r] s (setOpnd (.reg r) v s)) ∧
    StoredByte (wordOf s.h s.l) v s (setOpnd .m v s)

/-- MOV stores the source operand in the destination operand and writes no flag (R142; the flags are decision D34). -/
def Obligations.MovCopiesTheOperand : Prop :=
  ∀ (s : State) (src : Sel),
    (∀ r, ∃ t, exec (.mov (.reg r) src) s = .next t ∧ t.reg r = opnd src s ∧ t.f = s.f ∧ OnlyRegsAndF [r] s t) ∧
    ∃ t, exec (.mov .m src) s = .next t ∧ StoredByte s.hl (opnd src s) s t

/-- MVI stores its byte in the operand and writes no flag (R164). -/
def Obligations.MviStoresTheByte : Prop :=
  ∀ (s : State) (v : Byte),
    (∀ r, ∃ t, exec (.mvi (.reg r) v) s = .next t ∧ t.reg r = v ∧ t.f = s.f ∧ OnlyRegsAndF [r] s t) ∧
    ∃ t, exec (.mvi .m v) s = .next t ∧ StoredByte s.hl v s t

/-! ## The flag routines and the ALU -/

/-- The three flag routines write exactly their flags, by two-sided range tests on the unmasked values, and touch no other bit; the
first two are R100 and R101, with INR and DCR keeping Carry; the third keeps AC and writes the rest as R100 does (R102). -/
def Obligations.FlagRoutinesAsStated : Prop :=
  (∀ (r n : Int) (f : Byte),
    (∀ g, g = setAllFlags r n f ∨ g = setFlagsNotC r n f ∨ g = setMostFlags r f →
      (flagS g = true ↔ 128 ≤ r % 256) ∧ (flagZ g = true ↔ r % 256 = 0) ∧
      (flagP g = true ↔ ((List.range 8).countP fun i => (r % 256).toNat.testBit i) % 2 = 0) ∧ SameReserved f g) ∧
    (flagAC (setAllFlags r n f) = true ↔ ¬(0 ≤ n ∧ n < 16)) ∧ (flagC (setAllFlags r n f) = true ↔ ¬(0 ≤ r ∧ r < 256)) ∧
    (flagAC (setFlagsNotC r n f) = true ↔ ¬(0 ≤ n ∧ n < 16)) ∧ flagC (setFlagsNotC r n f) = flagC f ∧
    flagAC (setMostFlags r f) = flagAC f ∧ (flagC (setMostFlags r f) = true ↔ ¬(0 ≤ r ∧ r < 256))) ∧
  ∀ (s t : State) (o : Sel), exec (.inr o) s = .next t ∨ exec (.dcr o) s = .next t → flagC t.f = flagC s.f

/-- ADD, ADC, ADI, ACI: the sum mod 256, C the carry out of bit 7, AC the carry out of bit 3, S Z P of the result, nothing else
(R104, R106, R107, R114, R115; the carry-in's place in the nibble sum is decision D5). -/
def Obligations.AdditionsAddToA : Prop :=
  ∀ (s : State) (o : Sel) (v : Byte),
    (∃ t, exec (.add o) s = .next t ∧ Added (opnd o s) false s t) ∧
    (∃ t, exec (.adc o) s = .next t ∧ Added (opnd o s) (flagC s.f) s t) ∧
    (∃ t, exec (.adi v) s = .next t ∧ Added v false s t) ∧
    ∃ t, exec (.aci v) s = .next t ∧ Added v (flagC s.f) s t

/-- SUB, SBB, SUI, SBI: the difference mod 256, C set on a borrow, AC clear on a nibble borrow, S Z P of the result, nothing else
(R105, R108, R109, R116, R117; C's polarity is 90_conflicts.md C3, AC's decision D6, SBB's direction decision D4; log 8). -/
def Obligations.SubtractionsSubtractFromA : Prop :=
  ∀ (s : State) (o : Sel) (v : Byte),
    (∃ t, exec (.sub o) s = .next t ∧ Subtracted (opnd o s) false s t) ∧
    (∃ t, exec (.sbb o) s = .next t ∧ Subtracted (opnd o s) (flagC s.f) s t) ∧
    (∃ t, exec (.sui v) s = .next t ∧ Subtracted v false s t) ∧
    ∃ t, exec (.sbi v) s = .next t ∧ Subtracted v (flagC s.f) s t

/-- CMP and CPI: the flags of the subtraction, A kept; Z is 1 exactly when the operands are equal, C exactly when A is less
(R105, R113, R121; AC's polarity is decision D6; log 8). -/
def Obligations.ComparesSetFlagsOnly : Prop :=
  ∀ (s : State) (o : Sel) (v : Byte),
    (∃ t, exec (.cmp o) s = .next t ∧ Compared (opnd o s) s t ∧ (flagZ t.f = true ↔ s.a = opnd o s) ∧
      (flagC t.f = true ↔ s.a.toNat < (opnd o s).toNat)) ∧
    ∃ t, exec (.cpi v) s = .next t ∧ Compared v s t ∧ (flagZ t.f = true ↔ s.a = v) ∧ (flagC t.f = true ↔ s.a.toNat < v.toNat)

/-- ANA, ORA, ANI, ORI: the bitwise result, S Z P from it, C cleared, AC unchanged; XRA and XRI: the same with AC cleared; nothing else
(R102, R110, R111, R112, R118, R119, R120). -/
def Obligations.BitwiseOperationsOnA : Prop :=
  ∀ (s : State) (o : Sel) (v : Byte),
    (∃ t, exec (.ana o) s = .next t ∧ Bitwise (s.a &&& opnd o s) s t ∧ flagAC t.f = flagAC s.f) ∧
    (∃ t, exec (.ora o) s = .next t ∧ Bitwise (s.a ||| opnd o s) s t ∧ flagAC t.f = flagAC s.f) ∧
    (∃ t, exec (.xra o) s = .next t ∧ Bitwise (s.a ^^^ opnd o s) s t ∧ flagAC t.f = false) ∧
    (∃ t, exec (.ani v) s = .next t ∧ Bitwise (s.a &&& v) s t ∧ flagAC t.f = flagAC s.f) ∧
    (∃ t, exec (.ori v) s = .next t ∧ Bitwise (s.a ||| v) s t ∧ flagAC t.f = flagAC s.f) ∧
    ∃ t, exec (.xri v) s = .next t ∧ Bitwise (s.a ^^^ v) s t ∧ flagAC t.f = false

/-- For every result of a flag routine Z, S and P are those of its low 8 bits, and subtracting after adding the same value restores the
accumulator, in the immediate form and in the register and memory form; A itself is no such operand, since ADD changes it (R123). -/
def Obligations.SubAfterAddRestoresA : Prop :=
  (∀ (r n : Int) (f : Byte), FlagsOfResult (BitVec.ofInt 8 r) (setAllFlags r n f) ∧
    FlagsOfResult (BitVec.ofInt 8 r) (setFlagsNotC r n f) ∧ FlagsOfResult (BitVec.ofInt 8 r) (setMostFlags r f)) ∧
  (∀ (s t u : State) (v : Byte), exec (.adi v) s = .next t → exec (.sui v) t = .next u → u.a = s.a) ∧
  ∀ (s t u : State) (o : Sel), o ≠ .reg .a → exec (.add o) s = .next t → exec (.sub o) t = .next u → u.a = s.a

/-! ## Family 00 -/

/-- NOP changes nothing; a step over it moves PC by 1, wrapping, and counts; no other byte is NOP (R151; the opcode number is from
general knowledge, log 9). -/
def Obligations.NopOnlyAdvances : Prop :=
  (∀ s : State, exec .nop s = .next s) ∧
    (∀ s : State, s.halted = false → memRead s s.pc = 0x00 → step s = .next { s with pc := s.pc + 1, icount := s.icount + 1 }) ∧
    ∀ b b1 b2 : Byte, decode b b1 b2 = .nop → b = 0x00

/-- LXI loads its 16-bit value into the pair, field 3 naming SP, and writes no flag (R150, R152; SP and the operand's byte order are
from general knowledge, log 9). -/
def Obligations.LxiLoadsThePair : Prop :=
  ∀ (s : State) (p : Pair) (w : Word), ∃ t, exec (.lxi p w) s = .next t ∧ PairSet p w s t ∧ t.f = s.f

/-- DAD adds the pair to HL mod 65536; C is the carry out of bit 15 and no other flag is written (R153; that
pair field 3 is SP is from general knowledge, log 9). -/
def Obligations.DadAddsToHl : Prop :=
  ∀ (s : State) (p : Pair),
    ∃ t, exec (.dad p) s = .next t ∧ PairSet .hl (s.hl + rp p s) s t ∧ t.sp = s.sp ∧ OnlyCarry s.f t.f ∧
      (flagC t.f = true ↔ 65536 ≤ s.hl.toNat + (rp p s).toNat)

/-- INX and DCX add and subtract 1 mod 65536 and write no flag (R160, R161; the flags are from general knowledge, log 9). -/
def Obligations.InxAndDcxCountThePair : Prop :=
  ∀ (s : State) (p : Pair),
    (∃ t, exec (.inx p) s = .next t ∧ PairSet p (rp p s + 1) s t ∧ t.f = s.f) ∧
    ∃ t, exec (.dcx p) s = .next t ∧ PairSet p (rp p s - 1) s t ∧ t.f = s.f

/-- STAX and STA store A at the pair's address or at the direct address; the store is checked against the boundary and notified
(R154, R158, R44; that A is stored is from general knowledge, log 9). -/
def Obligations.StaxAndStaStoreA : Prop :=
  ∀ (s : State) (a16 : Word),
    (∃ t, exec (.stax .bc) s = .next t ∧ StoredByte s.bc s.a s t) ∧
    (∃ t, exec (.stax .de) s = .next t ∧ StoredByte s.de s.a s t) ∧
    ∃ t, exec (.sta a16) s = .next t ∧ StoredByte a16 s.a s t

/-- LDAX and LDA load A from memory and write nothing else (R155, R159; that A is loaded is from general knowledge, log 9). -/
def Obligations.LdaxAndLdaLoadA : Prop :=
  ∀ (s : State) (a16 : Word),
    (∃ t, exec (.ldax .bc) s = .next t ∧ t.a = memRead s s.bc ∧ t.f = s.f ∧ OnlyRegsAndF [.a] s t) ∧
    (∃ t, exec (.ldax .de) s = .next t ∧ t.a = memRead s s.de ∧ t.f = s.f ∧ OnlyRegsAndF [.a] s t) ∧
    ∃ t, exec (.lda a16) s = .next t ∧ t.a = memRead s a16 ∧ t.f = s.f ∧ OnlyRegsAndF [.a] s t

/-- SHLD stores L at the address and H at the next, wrapping; LHLD loads them from there (R156, R157, R45, R46; that HL is moved and
low byte first are from general knowledge, log 9); LHLD after SHLD of the same address gives HL back when neither byte is
read-only. -/
def Obligations.ShldAndLhldMoveHl : Prop :=
  ∀ (s : State) (a16 : Word),
    (∃ t, exec (.shld a16) s = .next t ∧ StoredWord a16 (wordOf s.h s.l) s t) ∧
    (∃ t, exec (.lhld a16) s = .next t ∧ t.l = memRead s a16 ∧ t.h = memRead s (a16 + 1) ∧ t.f = s.f ∧
      OnlyRegsAndF [.h, .l] s t) ∧
    ∀ (t u : State) (w : Word), s.cfg.romBoundary ≤ a16.toNat → s.cfg.romBoundary ≤ (a16 + 1).toNat →
      exec (.shld a16) s = .next t → exec (.lhld a16) (t.setHl w) = .next u → u.hl = s.hl

/-- INR adds 1 to its operand, S Z P from the result, AC exactly when the low nibble was 0xF, C unchanged; on memory the flags are
written and then the store is made, or refused (R162). -/
def Obligations.InrAddsOne : Prop :=
  ∀ (s : State) (o : Sel),
    ∃ t, exec (.inr o) s = .next t ∧ FlagsOfResult (opnd o s + 1) t.f ∧
      (flagAC t.f = true ↔ (opnd o s).toNat % 16 = 15) ∧ flagC t.f = flagC s.f ∧ SameReserved s.f t.f ∧
      (∀ r, o = .reg r → t.reg r = s.reg r + 1 ∧ OnlyRegsAndF [r] s t) ∧
      (o = .m → StoredByte s.hl (memRead s s.hl + 1) { s with f := t.f } t)

/-- DCR subtracts 1 from its operand, S Z P from the result, AC exactly when the low nibble was 0, C unchanged (R163; AC's polarity is
decision D7; log 8). -/
def Obligations.DcrSubtractsOne : Prop :=
  ∀ (s : State) (o : Sel),
    ∃ t, exec (.dcr o) s = .next t ∧ FlagsOfResult (opnd o s - 1) t.f ∧
      (flagAC t.f = true ↔ (opnd o s).toNat % 16 = 0) ∧ flagC t.f = flagC s.f ∧ SameReserved s.f t.f ∧
      (∀ r, o = .reg r → t.reg r = s.reg r - 1 ∧ OnlyRegsAndF [r] s t) ∧
      (o = .m → StoredByte s.hl (memRead s s.hl - 1) { s with f := t.f } t)

/-- The four rotates of A, bit by bit: RLC and RRC within A, RAL and RAR through Carry; only A and C are written (R165 to R168, from
general knowledge, log 9). -/
def Obligations.RotatesMoveOneBit : Prop :=
  ∀ s : State,
    (∃ t, exec .rlc s = .next t ∧ Rotated s t ∧ flagC t.f = s.a.getLsbD 7 ∧
      ∀ i, i < 8 → t.a.getLsbD i = s.a.getLsbD ((i + 7) % 8)) ∧
    (∃ t, exec .rrc s = .next t ∧ Rotated s t ∧ flagC t.f = s.a.getLsbD 0 ∧
      ∀ i, i < 8 → t.a.getLsbD i = s.a.getLsbD ((i + 1) % 8)) ∧
    (∃ t, exec .ral s = .next t ∧ Rotated s t ∧ flagC t.f = s.a.getLsbD 7 ∧
      ∀ i, i < 8 → t.a.getLsbD i = if i = 0 then flagC s.f else s.a.getLsbD (i - 1)) ∧
    ∃ t, exec .rar s = .next t ∧ Rotated s t ∧ flagC t.f = s.a.getLsbD 0 ∧
      ∀ i, i < 8 → t.a.getLsbD i = if i = 7 then flagC s.f else s.a.getLsbD (i + 1)

/-- DAA: 0x06 is added if the low nibble is over 9 or AC is set; then 0x60 if that carried, the high nibble is now over 9, or C was
set; C is any carry or the old one (R169; the nibble tested second, S, Z, P and AC are decision D8). -/
def Obligations.DaaAdjustsA : Prop :=
  ∀ s : State,
    let x := s.a.toNat + if 9 < s.a.toNat % 16 ∨ flagAC s.f = true then 6 else 0
    let y := x % 256 + if 256 ≤ x ∨ 9 < x % 256 / 16 ∨ flagC s.f = true then 0x60 else 0
    ∃ t, exec .daa s = .next t ∧ t.a.toNat = y % 256 ∧ (flagC t.f = true ↔ 256 ≤ x ∨ 256 ≤ y ∨ flagC s.f = true) ∧
      FlagsOfResult t.a t.f ∧
      (flagAC t.f = true ↔ 16 ≤ s.a.toNat % 16 + if 9 < s.a.toNat % 16 ∨ flagAC s.f = true then 6 else 0) ∧
      SameReserved s.f t.f ∧ OnlyRegsAndF [.a] s t

/-- ADD and then DAA add two packed decimal numbers: A is the sum mod 100 in packed decimal, C the decimal carry (a consequence of
R104 and R169; rests on decision D8 for the nibble tested second). -/
def Obligations.DaaAfterAddAddsDecimal : Prop :=
  ∀ (s t u : State) (v : Byte) (x y : Nat), x < 100 → y < 100 →
    s.a.toNat = x / 10 * 16 + x % 10 → v.toNat = y / 10 * 16 + y % 10 →
    exec (.adi v) s = .next t → exec .daa t = .next u →
    u.a.toNat = (x + y) % 100 / 10 * 16 + (x + y) % 10 ∧ (flagC u.f = true ↔ 100 ≤ x + y)

/-- CMA complements A and writes no flag; STC sets C and CMC complements it, writing nothing else (R170 to R172; that no other flag is
written is from general knowledge, log 9). -/
def Obligations.CmaStcCmcComplementAndSet : Prop :=
  ∀ s : State,
    (∃ t, exec .cma s = .next t ∧ t.a = ~~~s.a ∧ t.f = s.f ∧ OnlyRegsAndF [.a] s t) ∧
    (∃ t, exec .stc s = .next t ∧ flagC t.f = true ∧ OnlyCarry s.f t.f ∧ OnlyRegsAndF [] s t) ∧
    ∃ t, exec .cmc s = .next t ∧ flagC t.f = !flagC s.f ∧ OnlyCarry s.f t.f ∧ OnlyRegsAndF [] s t

/-! ## Family 11 -/

/-- A popped value is the one pushed and SP returns to its prior value, when both stack bytes can be written (R190, R191). -/
def Obligations.PopReturnsThePushedWord : Prop :=
  ∀ (s : State) (w : Word), StackWritable s (s.sp - 2) → StackWritable s (s.sp - 1) →
    (pop16 (push16 w s)).1 = w ∧ (pop16 (push16 w s)).2.sp = s.sp ∧ SameHalt s (pop16 (push16 w s)).2

/-- PUSH B, PUSH D, PUSH H: SP is 2 less, the low register goes to SP and the high register to SP + 1, each byte checked on its own
(R203, R190; the order of the two stores is decision D22). -/
def Obligations.PushStoresThePair : Prop :=
  ∀ s : State,
    (∃ t, exec .pushB s = .next t ∧ Pushed (wordOf s.b s.c) s t) ∧
    (∃ t, exec .pushD s = .next t ∧ Pushed (wordOf s.d s.e) s t) ∧
    ∃ t, exec .pushH s = .next t ∧ Pushed (wordOf s.h s.l) s t

/-- POP B, POP D, POP H: the low register gets the byte at SP, the high register the byte at SP + 1, SP is 2 more, no flag is written
(R201, R191; a byte whose access faults is a free value, log 6). -/
def Obligations.PopLoadsThePair : Prop :=
  ∀ s : State, ∃ w u, Popped w s u ∧
    exec .popB s = .next { u with b := hi8 w, c := lo8 w } ∧
    exec .popD s = .next { u with d := hi8 w, e := lo8 w } ∧
    exec .popH s = .next { u with h := hi8 w, l := lo8 w }

/-- PUSH PSW stores F at SP and A at SP + 1; POP PSW loads them from there, forcing bit 1 of F to 1 and bits 3 and 5 to 0 (R202, R204;
the byte order is decision D2, the forced bits decision D3; log 8); POP PSW after PUSH PSW restores A, F and SP, whatever A and F were
changed to in between, when F has its fixed bits and both stack bytes can be written. -/
def Obligations.PswPushesAndPopsAAndF : Prop :=
  ∀ s : State,
    (∃ t, exec .pushPsw s = .next t ∧ Pushed (wordOf s.a s.f) s t) ∧
    (∃ w u, Popped w s u ∧ exec .popPsw s = .next { u with a := hi8 w, f := (lo8 w &&& 0xD5) ||| 0x02 }) ∧
    ∀ (t u : State) (x g : Byte), fixedBits s.f → StackWritable s (s.sp - 2) → StackWritable s (s.sp - 1) →
      exec .pushPsw s = .next t → exec .popPsw { t with a := x, f := g } = .next u → u.a = s.a ∧ u.f = s.f ∧ u.sp = s.sp

/-- JMP sets PC to its address and changes nothing else; a JMP to its own address is an endless loop, each step changing `icount`
only (R196; the opcode number and the operand's byte order are from general knowledge, log 9). -/
def Obligations.JmpGoesToItsAddress : Prop :=
  (∀ (s : State) (w : Word), exec (.jmp w) s = .next { s with pc := w }) ∧
    ∀ s : State, s.halted = false → memRead s s.pc = 0xC3 → memRead s (s.pc + 1) = lo8 s.pc → memRead s (s.pc + 2) = hi8 s.pc →
      step s = .next { s with icount := s.icount + 1 }

/-- Jcc: to its address when the condition holds, else nothing (R194, R192; that the polarity bit 1 means the flag is 1 is decision
D37). -/
def Obligations.ConditionalJumps : Prop :=
  ∀ (s : State) (w : Word),
    let goes := fun s t : State => t = { s with pc := w }
    Conditionally (.jnz w) (flagZ s.f = false) goes s ∧ Conditionally (.jz w) (flagZ s.f = true) goes s ∧
    Conditionally (.jnc w) (flagC s.f = false) goes s ∧ Conditionally (.jc w) (flagC s.f = true) goes s ∧
    Conditionally (.jpo w) (flagP s.f = false) goes s ∧ Conditionally (.jpe w) (flagP s.f = true) goes s ∧
    Conditionally (.jp w) (flagS s.f = false) goes s ∧ Conditionally (.jm w) (flagS s.f = true) goes s

/-- Ccc: a call when the condition holds, else nothing (R195, R192; polarity decision D37; the order of the two stores is decision
D22). -/
def Obligations.ConditionalCalls : Prop :=
  ∀ (s : State) (w : Word),
    Conditionally (.cnz w) (flagZ s.f = false) (Called w) s ∧ Conditionally (.cz w) (flagZ s.f = true) (Called w) s ∧
    Conditionally (.cnc w) (flagC s.f = false) (Called w) s ∧ Conditionally (.cc w) (flagC s.f = true) (Called w) s ∧
    Conditionally (.cpo w) (flagP s.f = false) (Called w) s ∧ Conditionally (.cpe w) (flagP s.f = true) (Called w) s ∧
    Conditionally (.cp w) (flagS s.f = false) (Called w) s ∧ Conditionally (.cm w) (flagS s.f = true) (Called w) s

/-- Rcc: a return when the condition holds, else nothing (R193, R192; polarity decision D37). -/
def Obligations.ConditionalReturns : Prop :=
  ∀ s : State,
    Conditionally .rnz (flagZ s.f = false) Returned s ∧ Conditionally .rz (flagZ s.f = true) Returned s ∧
    Conditionally .rnc (flagC s.f = false) Returned s ∧ Conditionally .rc (flagC s.f = true) Returned s ∧
    Conditionally .rpo (flagP s.f = false) Returned s ∧ Conditionally .rpe (flagP s.f = true) Returned s ∧
    Conditionally .rp (flagS s.f = false) Returned s ∧ Conditionally .rm (flagS s.f = true) Returned s

/-- CALL and RST push the address of the next instruction and go to the address or to `n * 8`; RET pops and goes there (R197 to R199;
the order of the two stores is decision D22). The diagnostic shadow stack: a call pushes the SP of the return address with that
address, RET pops a frame whose SP matches and keeps every frame otherwise (R260; which SP is recorded is the model's choice,
log 12). -/
def Obligations.CallRstRetTransfer : Prop :=
  ∀ s : State,
    (∀ w, ∃ t, exec (.call w) s = .next t ∧ Called w s t ∧ t.shadow = ⟨s.sp - 2, s.pc⟩ :: s.shadow) ∧
    (∀ n, ∃ t, exec (.rst n) s = .next t ∧ Called (BitVec.ofNat 16 (8 * n.toNat)) s t ∧
      t.shadow = ⟨s.sp - 2, s.pc⟩ :: s.shadow) ∧
    ∃ t, exec .ret s = .next t ∧ Returned s t ∧
      match s.shadow with
      | fr :: rest => t.shadow = if fr.sp = s.sp then rest else s.shadow
      | [] => t.shadow = []

/-- CALL and then RET returns PC to the instruction after the CALL and SP to its value before, when both stack bytes can be written
(R197). -/
def Obligations.RetAfterCallReturns : Prop :=
  ∀ (s t u : State) (w : Word), StackWritable s (s.sp - 2) → StackWritable s (s.sp - 1) →
    exec (.call w) s = .next t → exec .ret t = .next u → t.pc = w ∧ u.pc = s.pc ∧ u.sp = s.sp

/-- PCHL copies HL to PC, SPHL to SP, XCHG exchanges DE and HL; nothing else changes (R200, R206, R207, from general knowledge,
log 9). That PCHL leaves the diagnostic shadow stack as it was is the model's choice, log 12. -/
def Obligations.PchlSphlXchgMoveHl : Prop :=
  ∀ s : State,
    exec .pchl s = .next { s with pc := wordOf s.h s.l } ∧ exec .sphl s = .next { s with sp := wordOf s.h s.l } ∧
    exec .xchg s = .next { s with d := s.h, e := s.l, h := s.d, l := s.e }

/-- XTHL stores L at SP and H at SP + 1 and loads them with the bytes that were there, also when a store is refused; SP is kept (R205,
from general knowledge and decision D35; log 9). -/
def Obligations.XthlExchangesTheStackTop : Prop :=
  ∀ s : State, ∃ u, StoredWord s.sp (wordOf s.h s.l) s u ∧
    exec .xthl s = .next { u with h := memRead s (s.sp + 1), l := memRead s s.sp }

/-! ## Ports -/

/-- IN on an unmapped port reads 0x00 and changes nothing else; OUT on an unmapped port changes nothing but the diagnostic record of
ports logged; neither halts (R56). -/
def Obligations.UnmappedPortsDoNotHalt : Prop :=
  ∀ (s : State) (p : Byte),
    ((∀ e ∈ s.cfg.inDev, e.port ≠ p) → exec (.inPort p) s = .next { s with a := 0x00 }) ∧
    ((∀ e ∈ s.cfg.outDev, e.port ≠ p) →
      ∃ t, exec (.outPort p) s = .next t ∧ t = { s with loggedPorts := t.loggedPorts })

/-- OUT on a mapped port delivers A to the handler, once; on an unmapped one the byte is dropped and the port number logged once; no
CPU state or memory changes and nothing faults (R55, R231). -/
def Obligations.OutDeliversAOrDropsIt : Prop :=
  ∀ (s : State) (p : Byte),
    (∀ h, handlerOf s.cfg.outDev p = some h →
      exec (.outPort p) s = .next { s with events := s.events ++ [.portOut h p s.a] }) ∧
    (handlerOf s.cfg.outDev p = none →
      exec (.outPort p) s = .next { s with loggedPorts := if p ∈ s.loggedPorts then s.loggedPorts else p :: s.loggedPorts })

/-- IN on a mapped port takes the environment's next answer: a byte is loaded into A; `NO_DATA` halts with `EndOfInput` and A kept. The
handler is called once, with the CPU state before the effect (R54, R230, R245; A on `NO_DATA` is decision D23). The answer is the
first one listed, or any answer when none is (log 5). -/
def Obligations.InTakesTheAnswer : Prop :=
  ∀ (s : State) (p : Byte) (h : Nat), handlerOf s.cfg.inDev p = some h →
    ∃ (ans : InAnswer) (u : State),
      u = { s with events := s.events ++ [.portIn h p s.view ans], inputs := s.inputs.tail, freeCount := u.freeCount } ∧
      (∀ x xs, s.inputs = x :: xs → ans = x ∧ u.freeCount = s.freeCount) ∧
      (∀ v, ans = .byte v → exec (.inPort p) s = .next { u with a := v }) ∧
      (ans = .noData → ∃ t, exec (.inPort p) s = .next t ∧ Halts (.endOfInput p) s t ∧
        t = { u with halted := t.halted, haltCause := t.haltCause })

/-! ## Halting, reset, the run loop, the host -/

/-- HLT sets `halted` and records its cause if none is recorded, and changes nothing else (R143, R246). -/
def Obligations.HltHalts : Prop :=
  ∀ s : State, ∃ t, exec .hlt s = .next t ∧ Halts .hltInstruction s t ∧
    t = { s with halted := t.halted, haltCause := t.haltCause }

/-- Each of the 14 unmatched bytes halts the core with its address and value, PC having moved past it, and changes nothing else
(R242, R77; PC is decision D16, which bytes decision D13). -/
def Obligations.UnmatchedBytesHalt : Prop :=
  ∀ (s : State) (i : Instr) (b : Byte),
    (i, b) ∈ ([(.unmatched08, 0x08), (.unmatched10, 0x10), (.unmatched18, 0x18), (.unmatched20, 0x20), (.unmatched28, 0x28),
      (.unmatched30, 0x30), (.unmatched38, 0x38), (.unmatchedCB, 0xCB), (.unmatchedD9, 0xD9), (.unmatchedDD, 0xDD),
      (.unmatchedED, 0xED), (.unmatchedFD, 0xFD), (.unmatchedF3, 0xF3), (.unmatchedFB, 0xFB)] : List (Instr × Byte)) →
    (∃ t, exec i s = .next t ∧ Halts (.unimplementedOpcode (s.pc - 1) b) s t ∧
      t = { s with halted := t.halted, haltCause := t.haltCause }) ∧
    (s.halted = false → s.haltCause = .none → memRead s s.pc = b →
      step s = .next { s with pc := s.pc + 1, icount := s.icount + 1, halted := true, haltCause := .unimplementedOpcode s.pc b })

/-- The host's `reset` sets PC, F, `halted` and the cause and touches nothing else; `State.reset` has the values the spec gives (R31,
R280, R281; what reset clears is decision D26; the model's PC is log 2). That it leaves the shadow stack, the logged ports and the
model's own fields as they were is the model's choice, log 20: R31 calls the first two unspecified after reset. -/
def Obligations.ResetSetsPcAndFlags : Prop :=
  (∀ (n : Nat) (s : State),
    resetAt n s = { s with pc := BitVec.ofNat 16 (n % 0x10000), f := 0x02, halted := false, haltCause := .none }) ∧
  State.reset.f = 0x02 ∧ State.reset.halted = false ∧ State.reset.haltCause = .none ∧ State.reset.icount = 0 ∧
  State.reset.cfg.romBoundary = 0 ∧ State.reset.cfg.mmio = [] ∧ State.reset.cfg.inDev = [] ∧ State.reset.cfg.outDev = [] ∧
  State.reset.cfg.watch = []

/-- The run loop with a budget always ends: the core is halted, or exactly the budget's steps were taken; the counter says how many;
the invariant holds at the end if it held at the start (R262; that the budget counts this call's steps is decision D28). -/
def Obligations.RunEndsHaltedOrAtTheBudget : Prop :=
  ∀ (n : Nat) (s : State), ∃ t, runLoop n s = .next t ∧ s.icount ≤ t.icount ∧ t.icount ≤ s.icount + n ∧
    (t.halted = true ∨ t.icount = s.icount + n) ∧ (s.halted = true → t = s) ∧ t.cfg = s.cfg ∧ (s.Inv → t.Inv)

/-- What the host does before a run keeps the invariant and touches its own item only (R22, R59, R259, R281, R286, R287). `load_byte`
of an address and a value in range always answers, whatever the boundary, changes that byte and notifies nobody (decision D19); a range
that shares an address with a registered one is refused, any other is accepted (R48, decision D20); a later handler of a port replaces
the earlier; `WATCH` gains the address; the sink is held. Numbers for devices and sinks are log 15, the operations for `STACK_CHECK`
and `StackValid` log 7, arguments out of range log 19. -/
def Obligations.HostOperationsKeepTheInvariant : Prop :=
  (∀ (s : State) (a v : Nat), a < 0x10000 → v < 256 → ∃ t, loadByte a v s = .next t ∧ t = { s with mem := t.mem } ∧
    memRead t (BitVec.ofNat 16 a) = BitVec.ofNat 8 v ∧ SameMemoryBut [BitVec.ofNat 16 a] s t) ∧
  (∀ (s t : State) (a v : Nat), s.Inv → loadByte a v s = .next t → t.Inv) ∧
  (∀ (s t : State) (n : Nat), s.Inv → setReadOnlyBoundary n s = .next t → t.Inv) ∧
  (∀ (s t : State) (d : Nat) (x y : Word), s.Inv → setMemoryMappedDevice d x y s = .next t → t.Inv) ∧
  (∀ (s : State) (d : Nat) (x y : Word) (r : MmioRange) (a : Word), r ∈ s.cfg.mmio → r.first ≤ a → a ≤ r.last → x ≤ a → a ≤ y →
    setMemoryMappedDevice d x y s = .refused .overlappingRange) ∧
  (∀ (s : State) (d : Nat) (x y : Word), (∀ r ∈ s.cfg.mmio, ∀ a : Word, r.first ≤ a → a ≤ r.last → x ≤ a → ¬a ≤ y) →
    setMemoryMappedDevice d x y s = .next { s with cfg := { s.cfg with mmio := s.cfg.mmio ++ [⟨x, y, d⟩] } }) ∧
  (∀ (s : State) (p q : Byte) (h : Nat),
    addInputDevice p h s = { s with cfg := { s.cfg with inDev := (addInputDevice p h s).cfg.inDev } } ∧
    handlerOf (addInputDevice p h s).cfg.inDev q = (if q = p then some h else handlerOf s.cfg.inDev q) ∧
    addOutputDevice p h s = { s with cfg := { s.cfg with outDev := (addOutputDevice p h s).cfg.outDev } } ∧
    handlerOf (addOutputDevice p h s).cfg.outDev q = (if q = p then some h else handlerOf s.cfg.outDev q)) ∧
  (∀ (s : State) (a x : Word) (k : Nat) (on : Bool) (rs : List AddrRange),
    setBreakpoint a s = { s with cfg := { s.cfg with watch := (setBreakpoint a s).cfg.watch } } ∧
    (x ∈ (setBreakpoint a s).cfg.watch ↔ x = a ∨ x ∈ s.cfg.watch) ∧
    enableTrace k s = { s with cfg := { s.cfg with traceSink := some k } } ∧
    setStackCheck on s = { s with cfg := { s.cfg with stackCheck := on } } ∧
    setStackRegion rs s = { s with cfg := { s.cfg with stackValid := rs } }) ∧
  (∀ (s : State) (p : Byte) (a : Word) (k : Nat) (on : Bool) (rs : List AddrRange), s.Inv →
    (addInputDevice p k s).Inv ∧ (addOutputDevice p k s).Inv ∧ (setBreakpoint a s).Inv ∧ (enableTrace k s).Inv ∧
    (setStackCheck on s).Inv ∧ (setStackRegion rs s).Inv) ∧
  ∀ (s : State) (n : Nat), Memory.wf s.mem = true → s.cfg.romBoundary ≤ memSize → disjointRanges s.cfg.mmio →
    s.loggedPorts.Nodup → (resetAt n s).Inv
end

