-- ==== Sys2Proof/Laws/Flags.lean ====
section
/-! SUPPORT. The flags byte bit by bit: what each routine writes and what it leaves, and the table of conditions. -/

namespace Sys2Proof.Machine

/-! ## Bits -/

/-- Setting bit `i` sets that bit and keeps the others. -/
theorem getLsbD_putBit (f : Byte) {i j : Nat} (v : Bool) (hi : i < 8) :
    (putBit f i v).getLsbD j = if j = i then v else f.getLsbD j := by
  by_cases hj : j < 8
  · cases v <;> by_cases h : j = i <;>
      simp [putBit, BitVec.getLsbD_or, BitVec.getLsbD_and, BitVec.getLsbD_not, h, hj] <;> omega
  · have h1 : ∀ x : Byte, x.getLsbD j = false := fun x => BitVec.getLsbD_of_ge x j (by omega)
    have hne : j ≠ i := by omega
    simp [h1, hne]

@[simp] theorem putS_bit (f : Byte) (v : Bool) (j : Nat) : (putS f v).getLsbD j = if j = 7 then v else f.getLsbD j :=
  getLsbD_putBit f v (by omega)

@[simp] theorem putZ_bit (f : Byte) (v : Bool) (j : Nat) : (putZ f v).getLsbD j = if j = 6 then v else f.getLsbD j :=
  getLsbD_putBit f v (by omega)

@[simp] theorem putAC_bit (f : Byte) (v : Bool) (j : Nat) : (putAC f v).getLsbD j = if j = 4 then v else f.getLsbD j :=
  getLsbD_putBit f v (by omega)

@[simp] theorem putP_bit (f : Byte) (v : Bool) (j : Nat) : (putP f v).getLsbD j = if j = 2 then v else f.getLsbD j :=
  getLsbD_putBit f v (by omega)

@[simp] theorem putC_bit (f : Byte) (v : Bool) (j : Nat) : (putC f v).getLsbD j = if j = 0 then v else f.getLsbD j :=
  getLsbD_putBit f v (by omega)

/-- POP PSW keeps the five flags of the byte it loads and forces the other three bits. -/
theorem loadF_bit (v : Byte) (j : Nat) :
    (loadF v).getLsbD j = if j = 1 then true else if j = 3 ∨ j = 5 then false else v.getLsbD j := by
  by_cases hj : j < 8
  · interval_cases j <;> simp [loadF]
  · have h1 : ∀ x : Byte, x.getLsbD j = false := fun x => BitVec.getLsbD_of_ge x j (by omega)
    simp [h1, show j ≠ 1 by omega, show j ≠ 3 by omega, show j ≠ 5 by omega]

/-! ## The routines, bit by bit -/

/-- `setSZP` writes bits 7, 6 and 2 and keeps the others. -/
@[simp] theorem setSZP_bit (r : Int) (f : Byte) (j : Nat) :
    (setSZP r f).getLsbD j =
      if j = 2 then parityEven (low8 r) else if j = 6 then low8 r == 0 else if j = 7 then (low8 r).getLsbD 7 else f.getLsbD j := by
  simp [setSZP]

@[simp] theorem setFlagsNotC_bit (r n : Int) (f : Byte) (j : Nat) :
    (setFlagsNotC r n f).getLsbD j = if j = 4 then outside n 16 else (setSZP r f).getLsbD j := by
  simp [setFlagsNotC]

@[simp] theorem setAllFlags_bit (r n : Int) (f : Byte) (j : Nat) :
    (setAllFlags r n f).getLsbD j = if j = 0 then outside r 256 else (setFlagsNotC r n f).getLsbD j := by
  simp [setAllFlags]

@[simp] theorem setMostFlags_bit (r : Int) (f : Byte) (j : Nat) :
    (setMostFlags r f).getLsbD j = if j = 0 then outside r 256 else (setSZP r f).getLsbD j := by
  simp [setMostFlags]

@[simp] theorem invertAC_bit (flip : Bool) (f : Byte) (j : Nat) :
    (invertAC flip f).getLsbD j = if j = 4 then (f.getLsbD 4 ^^ flip) else f.getLsbD j := by
  simp [invertAC, flagAC]

/-- The two-sided test. -/
@[simp] theorem outside_iff (x bound : Int) : outside x bound = true ↔ x < 0 ∨ bound ≤ x := by
  simp only [outside, Bool.not_eq_true', Bool.and_eq_false_iff, decide_eq_false_iff_not]
  omega

theorem low8_toNat (r : Int) : ((low8 r).toNat : Int) = r % 256 := by
  simp [low8, BitVec.toNat_ofInt]
  omega

theorem low8_ofNat (n : Nat) : low8 (n : Int) = BitVec.ofNat 8 n := by
  apply BitVec.eq_of_toNat_eq
  have := low8_toNat n
  simp only [BitVec.toNat_ofNat]
  omega

/-- A byte is its own low byte. -/
@[simp] theorem low8_toNat_self (v : Byte) : low8 (v.toNat : Int) = v := by
  rw [low8_ofNat]; simp

/-! ## The same bits in the spelling `simp` prefers -/

@[simp] theorem putS_getElem (f : Byte) (v : Bool) (j : Nat) (h : j < 8) : (putS f v)[j] = if j = 7 then v else f[j] := by
  rw [← BitVec.getLsbD_eq_getElem h, putS_bit, ← BitVec.getLsbD_eq_getElem h]
@[simp] theorem putZ_getElem (f : Byte) (v : Bool) (j : Nat) (h : j < 8) : (putZ f v)[j] = if j = 6 then v else f[j] := by
  rw [← BitVec.getLsbD_eq_getElem h, putZ_bit, ← BitVec.getLsbD_eq_getElem h]
@[simp] theorem putAC_getElem (f : Byte) (v : Bool) (j : Nat) (h : j < 8) : (putAC f v)[j] = if j = 4 then v else f[j] := by
  rw [← BitVec.getLsbD_eq_getElem h, putAC_bit, ← BitVec.getLsbD_eq_getElem h]
@[simp] theorem putP_getElem (f : Byte) (v : Bool) (j : Nat) (h : j < 8) : (putP f v)[j] = if j = 2 then v else f[j] := by
  rw [← BitVec.getLsbD_eq_getElem h, putP_bit, ← BitVec.getLsbD_eq_getElem h]
@[simp] theorem putC_getElem (f : Byte) (v : Bool) (j : Nat) (h : j < 8) : (putC f v)[j] = if j = 0 then v else f[j] := by
  rw [← BitVec.getLsbD_eq_getElem h, putC_bit, ← BitVec.getLsbD_eq_getElem h]
@[simp] theorem setSZP_getElem (r : Int) (f : Byte) (j : Nat) (h : j < 8) :
    (setSZP r f)[j] = if j = 2 then parityEven (low8 r) else if j = 6 then low8 r == 0 else if j = 7 then (low8 r).getLsbD 7 else f[j] := by
  rw [← BitVec.getLsbD_eq_getElem h, setSZP_bit, ← BitVec.getLsbD_eq_getElem h]
@[simp] theorem setFlagsNotC_getElem (r n : Int) (f : Byte) (j : Nat) (h : j < 8) :
    (setFlagsNotC r n f)[j] = if j = 4 then outside n 16 else (setSZP r f)[j] := by
  rw [← BitVec.getLsbD_eq_getElem h, setFlagsNotC_bit, ← BitVec.getLsbD_eq_getElem h]
@[simp] theorem setAllFlags_getElem (r n : Int) (f : Byte) (j : Nat) (h : j < 8) :
    (setAllFlags r n f)[j] = if j = 0 then outside r 256 else (setFlagsNotC r n f)[j] := by
  rw [← BitVec.getLsbD_eq_getElem h, setAllFlags_bit, ← BitVec.getLsbD_eq_getElem h]
@[simp] theorem setMostFlags_getElem (r : Int) (f : Byte) (j : Nat) (h : j < 8) :
    (setMostFlags r f)[j] = if j = 0 then outside r 256 else (setSZP r f)[j] := by
  rw [← BitVec.getLsbD_eq_getElem h, setMostFlags_bit, ← BitVec.getLsbD_eq_getElem h]
@[simp] theorem invertAC_getElem (flip : Bool) (f : Byte) (j : Nat) (h : j < 8) :
    (invertAC flip f)[j] = if j = 4 then (f.getLsbD 4 ^^ flip) else f[j] := by
  rw [← BitVec.getLsbD_eq_getElem h, invertAC_bit, ← BitVec.getLsbD_eq_getElem h]
@[simp] theorem loadF_getElem (v : Byte) (j : Nat) (h : j < 8) :
    (loadF v)[j] = if j = 1 then true else if j = 3 ∨ j = 5 then false else v[j] := by
  rw [← BitVec.getLsbD_eq_getElem h, loadF_bit, ← BitVec.getLsbD_eq_getElem h]

/-! ## Each flag after each routine -/

@[simp] theorem flagS_putS (f : Byte) (v : Bool) : flagS (putS f v) = (v) := by simp [flagS]
@[simp] theorem flagZ_putS (f : Byte) (v : Bool) : flagZ (putS f v) = flagZ f := by simp [flagZ]
@[simp] theorem flagAC_putS (f : Byte) (v : Bool) : flagAC (putS f v) = flagAC f := by simp [flagAC]
@[simp] theorem flagP_putS (f : Byte) (v : Bool) : flagP (putS f v) = flagP f := by simp [flagP]
@[simp] theorem flagC_putS (f : Byte) (v : Bool) : flagC (putS f v) = flagC f := by simp [flagC]
@[simp] theorem flagS_putZ (f : Byte) (v : Bool) : flagS (putZ f v) = flagS f := by simp [flagS]
@[simp] theorem flagZ_putZ (f : Byte) (v : Bool) : flagZ (putZ f v) = (v) := by simp [flagZ]
@[simp] theorem flagAC_putZ (f : Byte) (v : Bool) : flagAC (putZ f v) = flagAC f := by simp [flagAC]
@[simp] theorem flagP_putZ (f : Byte) (v : Bool) : flagP (putZ f v) = flagP f := by simp [flagP]
@[simp] theorem flagC_putZ (f : Byte) (v : Bool) : flagC (putZ f v) = flagC f := by simp [flagC]
@[simp] theorem flagS_putAC (f : Byte) (v : Bool) : flagS (putAC f v) = flagS f := by simp [flagS]
@[simp] theorem flagZ_putAC (f : Byte) (v : Bool) : flagZ (putAC f v) = flagZ f := by simp [flagZ]
@[simp] theorem flagAC_putAC (f : Byte) (v : Bool) : flagAC (putAC f v) = (v) := by simp [flagAC]
@[simp] theorem flagP_putAC (f : Byte) (v : Bool) : flagP (putAC f v) = flagP f := by simp [flagP]
@[simp] theorem flagC_putAC (f : Byte) (v : Bool) : flagC (putAC f v) = flagC f := by simp [flagC]
@[simp] theorem flagS_putP (f : Byte) (v : Bool) : flagS (putP f v) = flagS f := by simp [flagS]
@[simp] theorem flagZ_putP (f : Byte) (v : Bool) : flagZ (putP f v) = flagZ f := by simp [flagZ]
@[simp] theorem flagAC_putP (f : Byte) (v : Bool) : flagAC (putP f v) = flagAC f := by simp [flagAC]
@[simp] theorem flagP_putP (f : Byte) (v : Bool) : flagP (putP f v) = (v) := by simp [flagP]
@[simp] theorem flagC_putP (f : Byte) (v : Bool) : flagC (putP f v) = flagC f := by simp [flagC]
@[simp] theorem flagS_putC (f : Byte) (v : Bool) : flagS (putC f v) = flagS f := by simp [flagS]
@[simp] theorem flagZ_putC (f : Byte) (v : Bool) : flagZ (putC f v) = flagZ f := by simp [flagZ]
@[simp] theorem flagAC_putC (f : Byte) (v : Bool) : flagAC (putC f v) = flagAC f := by simp [flagAC]
@[simp] theorem flagP_putC (f : Byte) (v : Bool) : flagP (putC f v) = flagP f := by simp [flagP]
@[simp] theorem flagC_putC (f : Byte) (v : Bool) : flagC (putC f v) = (v) := by simp [flagC]
@[simp] theorem flagS_setSZP (r : Int) (f : Byte) : flagS (setSZP r f) = ((low8 r).getLsbD 7) := by simp [flagS]
@[simp] theorem flagZ_setSZP (r : Int) (f : Byte) : flagZ (setSZP r f) = (low8 r == 0) := by simp [flagZ]
@[simp] theorem flagAC_setSZP (r : Int) (f : Byte) : flagAC (setSZP r f) = flagAC f := by simp [flagAC]
@[simp] theorem flagP_setSZP (r : Int) (f : Byte) : flagP (setSZP r f) = (parityEven (low8 r)) := by simp [flagP]
@[simp] theorem flagC_setSZP (r : Int) (f : Byte) : flagC (setSZP r f) = flagC f := by simp [flagC]
@[simp] theorem flagS_setFlagsNotC (r n : Int) (f : Byte) : flagS (setFlagsNotC r n f) = ((low8 r).getLsbD 7) := by simp [flagS]
@[simp] theorem flagZ_setFlagsNotC (r n : Int) (f : Byte) : flagZ (setFlagsNotC r n f) = (low8 r == 0) := by simp [flagZ]
@[simp] theorem flagAC_setFlagsNotC (r n : Int) (f : Byte) : flagAC (setFlagsNotC r n f) = (outside n 16) := by simp [flagAC]
@[simp] theorem flagP_setFlagsNotC (r n : Int) (f : Byte) : flagP (setFlagsNotC r n f) = (parityEven (low8 r)) := by simp [flagP]
@[simp] theorem flagC_setFlagsNotC (r n : Int) (f : Byte) : flagC (setFlagsNotC r n f) = flagC f := by simp [flagC]
@[simp] theorem flagS_setAllFlags (r n : Int) (f : Byte) : flagS (setAllFlags r n f) = ((low8 r).getLsbD 7) := by simp [flagS]
@[simp] theorem flagZ_setAllFlags (r n : Int) (f : Byte) : flagZ (setAllFlags r n f) = (low8 r == 0) := by simp [flagZ]
@[simp] theorem flagAC_setAllFlags (r n : Int) (f : Byte) : flagAC (setAllFlags r n f) = (outside n 16) := by simp [flagAC]
@[simp] theorem flagP_setAllFlags (r n : Int) (f : Byte) : flagP (setAllFlags r n f) = (parityEven (low8 r)) := by simp [flagP]
@[simp] theorem flagC_setAllFlags (r n : Int) (f : Byte) : flagC (setAllFlags r n f) = (outside r 256) := by simp [flagC]
@[simp] theorem flagS_setMostFlags (r : Int) (f : Byte) : flagS (setMostFlags r f) = ((low8 r).getLsbD 7) := by simp [flagS]
@[simp] theorem flagZ_setMostFlags (r : Int) (f : Byte) : flagZ (setMostFlags r f) = (low8 r == 0) := by simp [flagZ]
@[simp] theorem flagAC_setMostFlags (r : Int) (f : Byte) : flagAC (setMostFlags r f) = flagAC f := by simp [flagAC]
@[simp] theorem flagP_setMostFlags (r : Int) (f : Byte) : flagP (setMostFlags r f) = (parityEven (low8 r)) := by simp [flagP]
@[simp] theorem flagC_setMostFlags (r : Int) (f : Byte) : flagC (setMostFlags r f) = (outside r 256) := by simp [flagC]
@[simp] theorem flagS_invertAC (flip : Bool) (f : Byte) : flagS (invertAC flip f) = flagS f := by simp [flagS]
@[simp] theorem flagZ_invertAC (flip : Bool) (f : Byte) : flagZ (invertAC flip f) = flagZ f := by simp [flagZ]
@[simp] theorem flagAC_invertAC (flip : Bool) (f : Byte) : flagAC (invertAC flip f) = ((flagAC f ^^ flip)) := by simp [flagAC]
@[simp] theorem flagP_invertAC (flip : Bool) (f : Byte) : flagP (invertAC flip f) = flagP f := by simp [flagP]
@[simp] theorem flagC_invertAC (flip : Bool) (f : Byte) : flagC (invertAC flip f) = flagC f := by simp [flagC]
@[simp] theorem flagS_loadF (f : Byte) : flagS (loadF f) = flagS f := by simp [flagS]
@[simp] theorem flagZ_loadF (f : Byte) : flagZ (loadF f) = flagZ f := by simp [flagZ]
@[simp] theorem flagAC_loadF (f : Byte) : flagAC (loadF f) = flagAC f := by simp [flagAC]
@[simp] theorem flagP_loadF (f : Byte) : flagP (loadF f) = flagP f := by simp [flagP]
@[simp] theorem flagC_loadF (f : Byte) : flagC (loadF f) = flagC f := by simp [flagC]

/-! ## Conditions -/

/-- The eight conditions by number: NZ Z NC C PO PE P M (43_family11_control_stack.md R192). -/
theorem condHolds_table (f : Byte) :
    condHolds 0 f = !flagZ f ∧ condHolds 1 f = flagZ f ∧ condHolds 2 f = !flagC f ∧ condHolds 3 f = flagC f ∧
      condHolds 4 f = !flagP f ∧ condHolds 5 f = flagP f ∧ condHolds 6 f = !flagS f ∧ condHolds 7 f = flagS f := by
  refine ⟨?_, ?_, ?_, ?_, ?_, ?_, ?_, ?_⟩ <;> simp [condHolds, condFlag]

end Sys2Proof.Machine
end

