-- ==== Sys2Proof/Laws/Memory.lean ====
section
/-! SUPPORT. The laws of the memory list: a read after a write, what a write leaves alone, and that every operation keeps the
canonical form. -/

namespace Sys2Proof.Machine

/-! ## Reads after writes, on any list -/

theorem Memory.read_erase_same (m : Memory) (k : Nat) : (m.erase k).read k = Memory.unlisted := by
  induction m with
  | nil => rfl
  | cons e m ih =>
    obtain ⟨a, v⟩ := e
    by_cases h : a = k <;> simp [Memory.erase, Memory.read, h, ih]

theorem Memory.read_erase_other (m : Memory) {j k : Nat} (hjk : j ≠ k) : (m.erase k).read j = m.read j := by
  induction m with
  | nil => rfl
  | cons e m ih =>
    obtain ⟨a, v⟩ := e
    by_cases h : a = k
    · subst h; simp [Memory.erase, Memory.read, ih, Ne.symm hjk]
    · by_cases h' : a = j
      · subst h'; simp [Memory.erase, Memory.read, h]
      · simp [Memory.erase, Memory.read, h, h', ih]

theorem Memory.read_insert_other (m : Memory) {j k : Nat} (v : Byte) (hjk : j ≠ k) :
    (m.insert k v).read j = m.read j := by
  induction m with
  | nil => simp [Memory.insert, Memory.read, Ne.symm hjk]
  | cons e m ih =>
    obtain ⟨a, w⟩ := e
    by_cases h : k < a
    · simp [Memory.insert, Memory.read, h, Ne.symm hjk]
    · by_cases h' : a = j
      · subst h'; simp [Memory.insert, Memory.read, h]
      · simp [Memory.insert, Memory.read, h, h', ih]

/-- No entry of a memory is for `k`. -/
def Memory.lacks (m : Memory) (k : Nat) : Prop := ∀ e ∈ m, e.1 ≠ k

theorem Memory.erase_lacks (m : Memory) (k : Nat) : (m.erase k).lacks k := by
  induction m with
  | nil => intro e he; cases he
  | cons e m ih =>
    obtain ⟨a, v⟩ := e
    by_cases h : a = k
    · simpa [Memory.erase, h] using ih
    · intro x hx
      simp only [Memory.erase, h, if_false, List.mem_cons] at hx
      rcases hx with rfl | hx
      · exact h
      · exact ih x hx

theorem Memory.read_insert_same (m : Memory) (k : Nat) (v : Byte) (hm : m.lacks k) : (m.insert k v).read k = v := by
  induction m with
  | nil => simp [Memory.insert, Memory.read]
  | cons e m ih =>
    obtain ⟨a, w⟩ := e
    have ha : a ≠ k := hm (a, w) (by simp)
    have hm' : Memory.lacks m k := fun x hx => hm x (by simp [hx])
    by_cases h : k < a
    · simp [Memory.insert, Memory.read, h]
    · simp [Memory.insert, Memory.read, h, ha, ih hm']

/-- A read after a write to the same address gives the byte written. -/
@[simp] theorem Memory.read_write_same (m : Memory) (k : Nat) (v : Byte) : (m.write k v).read k = v := by
  by_cases h : v = Memory.unlisted
  · simp [Memory.write, h, Memory.read_erase_same]
  · simp [Memory.write, h, Memory.read_insert_same _ _ _ (Memory.erase_lacks m k)]

/-- A write leaves every other address alone. -/
theorem Memory.read_write_other (m : Memory) {j k : Nat} (v : Byte) (hjk : j ≠ k) : (m.write k v).read j = m.read j := by
  by_cases h : v = Memory.unlisted
  · simp [Memory.write, h, Memory.read_erase_other m hjk]
  · simp [Memory.write, h, Memory.read_insert_other _ _ hjk, Memory.read_erase_other m hjk]

/-! ## The canonical form -/

@[simp] theorem Memory.wfFrom_nil (lo : Nat) : Memory.wfFrom lo [] = true := rfl

theorem Memory.wfFrom_cons (lo a : Nat) (v : Byte) (m : Memory) :
    Memory.wfFrom lo ((a, v) :: m) = true ↔
      lo ≤ a ∧ a < memSize ∧ v ≠ Memory.unlisted ∧ Memory.wfFrom (a + 1) m = true := by
  simp [Memory.wfFrom, and_assoc]

theorem Memory.wfFrom_mono {lo hi : Nat} (m : Memory) (hle : lo ≤ hi) (h : Memory.wfFrom hi m = true) :
    Memory.wfFrom lo m = true := by
  cases m with
  | nil => rfl
  | cons e m =>
    obtain ⟨a, v⟩ := e
    rw [Memory.wfFrom_cons] at h ⊢
    exact ⟨hle.trans h.1, h.2⟩

theorem Memory.wfFrom_erase (m : Memory) (k lo : Nat) (h : Memory.wfFrom lo m = true) :
    Memory.wfFrom lo (m.erase k) = true := by
  induction m generalizing lo with
  | nil => rfl
  | cons e m ih =>
    obtain ⟨a, v⟩ := e
    rw [Memory.wfFrom_cons] at h
    by_cases hk : a = k
    · simpa [Memory.erase, hk] using Memory.wfFrom_mono _ (by omega : lo ≤ a + 1) (ih (a + 1) h.2.2.2)
    · simp only [Memory.erase, hk, if_false, Memory.wfFrom_cons]
      exact ⟨h.1, h.2.1, h.2.2.1, ih _ h.2.2.2⟩

theorem Memory.wfFrom_insert (m : Memory) (k lo : Nat) (v : Byte) (hlo : lo ≤ k) (hk : k < memSize)
    (hv : v ≠ Memory.unlisted) (hm : m.lacks k) (h : Memory.wfFrom lo m = true) :
    Memory.wfFrom lo (m.insert k v) = true := by
  induction m generalizing lo with
  | nil => simp [Memory.insert, Memory.wfFrom_cons, hlo, hk, hv]
  | cons e m ih =>
    obtain ⟨a, w⟩ := e
    rw [Memory.wfFrom_cons] at h
    have ha : a ≠ k := hm (a, w) (by simp)
    by_cases hka : k < a
    · simp only [Memory.insert, hka, if_true, Memory.wfFrom_cons]
      exact ⟨hlo, hk, hv, hka, h.2.1, h.2.2.1, h.2.2.2⟩
    · simp only [Memory.insert, hka, if_false, Memory.wfFrom_cons]
      exact ⟨h.1, h.2.1, h.2.2.1, ih (a + 1) (by omega) (fun x hx => hm x (by simp [hx])) h.2.2.2⟩

/-- Every write to an address of the hardware keeps the canonical form. -/
theorem Memory.wf_write (m : Memory) (k : Nat) (v : Byte) (hk : k < memSize) (h : Memory.wf m = true) :
    Memory.wf (m.write k v) = true := by
  by_cases hv : v = Memory.unlisted
  · simpa [Memory.write, hv, Memory.wf] using Memory.wfFrom_erase m k 0 h
  · simpa [Memory.write, hv, Memory.wf] using
      Memory.wfFrom_insert _ k 0 v (Nat.zero_le k) hk hv (Memory.erase_lacks m k) (Memory.wfFrom_erase m k 0 h)

/-- Every 16-bit address is an address of the hardware (20_memory.md R40). -/
theorem toNat_lt_memSize (a : Word) : a.toNat < memSize := a.isLt

/-! ## Equal memories are equal lists -/

theorem Memory.read_below (m : Memory) {lo k : Nat} (h : Memory.wfFrom lo m = true) (hk : k < lo) :
    m.read k = Memory.unlisted := by
  induction m generalizing lo with
  | nil => rfl
  | cons e m ih =>
    obtain ⟨a, v⟩ := e
    rw [Memory.wfFrom_cons] at h
    have : a ≠ k := by omega
    simp [Memory.read, this, ih h.2.2.2 (by omega)]

theorem Memory.eq_of_read_from (m n : Memory) (lo : Nat) (hm : Memory.wfFrom lo m = true) (hn : Memory.wfFrom lo n = true)
    (h : ∀ k, m.read k = n.read k) : m = n := by
  induction m generalizing lo n with
  | nil =>
    cases n with
    | nil => rfl
    | cons e n =>
      obtain ⟨a, v⟩ := e
      rw [Memory.wfFrom_cons] at hn
      exact absurd (by simpa [Memory.read] using (h a).symm) hn.2.2.1
  | cons e m ih =>
    obtain ⟨a, v⟩ := e
    have hm' := hm
    rw [Memory.wfFrom_cons] at hm
    cases n with
    | nil => exact absurd (by simpa [Memory.read] using h a) hm.2.2.1
    | cons e' n =>
      obtain ⟨a', v'⟩ := e'
      have hn' := hn
      rw [Memory.wfFrom_cons] at hn
      have haa : a = a' := by
        rcases lt_trichotomy a a' with hlt | heq | hgt
        · have h1 := h a
          rw [show Memory.read ((a', v') :: n) a = Memory.unlisted by
            simp [Memory.read, Nat.ne_of_gt hlt, Memory.read_below n hn.2.2.2 (by omega : a < a' + 1)]] at h1
          exact absurd (by simpa [Memory.read] using h1) hm.2.2.1
        · exact heq
        · have h1 := h a'
          rw [show Memory.read ((a, v) :: m) a' = Memory.unlisted by
            simp [Memory.read, Nat.ne_of_gt hgt, Memory.read_below m hm.2.2.2 (by omega : a' < a + 1)]] at h1
          exact absurd (by simpa [Memory.read] using h1.symm) hn.2.2.1
      subst haa
      have hv : v = v' := by simpa [Memory.read] using h a
      subst hv
      have hrest : m = n := ih n (a + 1) hm.2.2.2 hn.2.2.2 fun k => by
        by_cases hk : a = k
        · subst hk
          rw [Memory.read_below m hm.2.2.2 (by omega), Memory.read_below n hn.2.2.2 (by omega)]
        · simpa [Memory.read, hk] using h k
      rw [hrest]

/-- Two memories in canonical form that read alike everywhere are the same list. -/
theorem Memory.eq_of_read (m n : Memory) (hm : Memory.wf m = true) (hn : Memory.wf n = true)
    (h : ∀ k, m.read k = n.read k) : m = n := Memory.eq_of_read_from m n 0 hm hn h

end Sys2Proof.Machine
end

