-- ==== Sys2Proof/Laws/State.lean ====
section
/-! SUPPORT. One lemma for each field and each named update of the state, true by computation, so that no proof unfolds a record
update; and the registers read through `State.reg`. -/

namespace Sys2Proof.Machine

variable (s : State)

/-! ### setF -/

@[simp] theorem State.setF_b (v : Byte) : (s.setF v).b = s.b := rfl
@[simp] theorem State.setF_c (v : Byte) : (s.setF v).c = s.c := rfl
@[simp] theorem State.setF_d (v : Byte) : (s.setF v).d = s.d := rfl
@[simp] theorem State.setF_e (v : Byte) : (s.setF v).e = s.e := rfl
@[simp] theorem State.setF_h (v : Byte) : (s.setF v).h = s.h := rfl
@[simp] theorem State.setF_l (v : Byte) : (s.setF v).l = s.l := rfl
@[simp] theorem State.setF_a (v : Byte) : (s.setF v).a = s.a := rfl
@[simp] theorem State.setF_f (v : Byte) : (s.setF v).f = v := rfl
@[simp] theorem State.setF_sp (v : Byte) : (s.setF v).sp = s.sp := rfl
@[simp] theorem State.setF_pc (v : Byte) : (s.setF v).pc = s.pc := rfl
@[simp] theorem State.setF_icount (v : Byte) : (s.setF v).icount = s.icount := rfl
@[simp] theorem State.setF_halted (v : Byte) : (s.setF v).halted = s.halted := rfl
@[simp] theorem State.setF_haltCause (v : Byte) : (s.setF v).haltCause = s.haltCause := rfl
@[simp] theorem State.setF_mem (v : Byte) : (s.setF v).mem = s.mem := rfl
@[simp] theorem State.setF_cfg (v : Byte) : (s.setF v).cfg = s.cfg := rfl
@[simp] theorem State.setF_shadow (v : Byte) : (s.setF v).shadow = s.shadow := rfl
@[simp] theorem State.setF_loggedPorts (v : Byte) : (s.setF v).loggedPorts = s.loggedPorts := rfl
@[simp] theorem State.setF_hookLog (v : Byte) : (s.setF v).hookLog = s.hookLog := rfl
@[simp] theorem State.setF_events (v : Byte) : (s.setF v).events = s.events := rfl
@[simp] theorem State.setF_inputs (v : Byte) : (s.setF v).inputs = s.inputs := rfl
@[simp] theorem State.setF_freeCount (v : Byte) : (s.setF v).freeCount = s.freeCount := rfl
@[simp] theorem State.setF_reg (v : Byte) (r : Reg) : (s.setF v).reg r = s.reg r := by cases r <;> rfl

/-! ### setSp -/

@[simp] theorem State.setSp_b (v : Word) : (s.setSp v).b = s.b := rfl
@[simp] theorem State.setSp_c (v : Word) : (s.setSp v).c = s.c := rfl
@[simp] theorem State.setSp_d (v : Word) : (s.setSp v).d = s.d := rfl
@[simp] theorem State.setSp_e (v : Word) : (s.setSp v).e = s.e := rfl
@[simp] theorem State.setSp_h (v : Word) : (s.setSp v).h = s.h := rfl
@[simp] theorem State.setSp_l (v : Word) : (s.setSp v).l = s.l := rfl
@[simp] theorem State.setSp_a (v : Word) : (s.setSp v).a = s.a := rfl
@[simp] theorem State.setSp_f (v : Word) : (s.setSp v).f = s.f := rfl
@[simp] theorem State.setSp_sp (v : Word) : (s.setSp v).sp = v := rfl
@[simp] theorem State.setSp_pc (v : Word) : (s.setSp v).pc = s.pc := rfl
@[simp] theorem State.setSp_icount (v : Word) : (s.setSp v).icount = s.icount := rfl
@[simp] theorem State.setSp_halted (v : Word) : (s.setSp v).halted = s.halted := rfl
@[simp] theorem State.setSp_haltCause (v : Word) : (s.setSp v).haltCause = s.haltCause := rfl
@[simp] theorem State.setSp_mem (v : Word) : (s.setSp v).mem = s.mem := rfl
@[simp] theorem State.setSp_cfg (v : Word) : (s.setSp v).cfg = s.cfg := rfl
@[simp] theorem State.setSp_shadow (v : Word) : (s.setSp v).shadow = s.shadow := rfl
@[simp] theorem State.setSp_loggedPorts (v : Word) : (s.setSp v).loggedPorts = s.loggedPorts := rfl
@[simp] theorem State.setSp_hookLog (v : Word) : (s.setSp v).hookLog = s.hookLog := rfl
@[simp] theorem State.setSp_events (v : Word) : (s.setSp v).events = s.events := rfl
@[simp] theorem State.setSp_inputs (v : Word) : (s.setSp v).inputs = s.inputs := rfl
@[simp] theorem State.setSp_freeCount (v : Word) : (s.setSp v).freeCount = s.freeCount := rfl
@[simp] theorem State.setSp_reg (v : Word) (r : Reg) : (s.setSp v).reg r = s.reg r := by cases r <;> rfl

/-! ### setPc -/

@[simp] theorem State.setPc_b (v : Word) : (s.setPc v).b = s.b := rfl
@[simp] theorem State.setPc_c (v : Word) : (s.setPc v).c = s.c := rfl
@[simp] theorem State.setPc_d (v : Word) : (s.setPc v).d = s.d := rfl
@[simp] theorem State.setPc_e (v : Word) : (s.setPc v).e = s.e := rfl
@[simp] theorem State.setPc_h (v : Word) : (s.setPc v).h = s.h := rfl
@[simp] theorem State.setPc_l (v : Word) : (s.setPc v).l = s.l := rfl
@[simp] theorem State.setPc_a (v : Word) : (s.setPc v).a = s.a := rfl
@[simp] theorem State.setPc_f (v : Word) : (s.setPc v).f = s.f := rfl
@[simp] theorem State.setPc_sp (v : Word) : (s.setPc v).sp = s.sp := rfl
@[simp] theorem State.setPc_pc (v : Word) : (s.setPc v).pc = v := rfl
@[simp] theorem State.setPc_icount (v : Word) : (s.setPc v).icount = s.icount := rfl
@[simp] theorem State.setPc_halted (v : Word) : (s.setPc v).halted = s.halted := rfl
@[simp] theorem State.setPc_haltCause (v : Word) : (s.setPc v).haltCause = s.haltCause := rfl
@[simp] theorem State.setPc_mem (v : Word) : (s.setPc v).mem = s.mem := rfl
@[simp] theorem State.setPc_cfg (v : Word) : (s.setPc v).cfg = s.cfg := rfl
@[simp] theorem State.setPc_shadow (v : Word) : (s.setPc v).shadow = s.shadow := rfl
@[simp] theorem State.setPc_loggedPorts (v : Word) : (s.setPc v).loggedPorts = s.loggedPorts := rfl
@[simp] theorem State.setPc_hookLog (v : Word) : (s.setPc v).hookLog = s.hookLog := rfl
@[simp] theorem State.setPc_events (v : Word) : (s.setPc v).events = s.events := rfl
@[simp] theorem State.setPc_inputs (v : Word) : (s.setPc v).inputs = s.inputs := rfl
@[simp] theorem State.setPc_freeCount (v : Word) : (s.setPc v).freeCount = s.freeCount := rfl
@[simp] theorem State.setPc_reg (v : Word) (r : Reg) : (s.setPc v).reg r = s.reg r := by cases r <;> rfl

/-! ### setIcount -/

@[simp] theorem State.setIcount_b (n : Nat) : (s.setIcount n).b = s.b := rfl
@[simp] theorem State.setIcount_c (n : Nat) : (s.setIcount n).c = s.c := rfl
@[simp] theorem State.setIcount_d (n : Nat) : (s.setIcount n).d = s.d := rfl
@[simp] theorem State.setIcount_e (n : Nat) : (s.setIcount n).e = s.e := rfl
@[simp] theorem State.setIcount_h (n : Nat) : (s.setIcount n).h = s.h := rfl
@[simp] theorem State.setIcount_l (n : Nat) : (s.setIcount n).l = s.l := rfl
@[simp] theorem State.setIcount_a (n : Nat) : (s.setIcount n).a = s.a := rfl
@[simp] theorem State.setIcount_f (n : Nat) : (s.setIcount n).f = s.f := rfl
@[simp] theorem State.setIcount_sp (n : Nat) : (s.setIcount n).sp = s.sp := rfl
@[simp] theorem State.setIcount_pc (n : Nat) : (s.setIcount n).pc = s.pc := rfl
@[simp] theorem State.setIcount_icount (n : Nat) : (s.setIcount n).icount = n := rfl
@[simp] theorem State.setIcount_halted (n : Nat) : (s.setIcount n).halted = s.halted := rfl
@[simp] theorem State.setIcount_haltCause (n : Nat) : (s.setIcount n).haltCause = s.haltCause := rfl
@[simp] theorem State.setIcount_mem (n : Nat) : (s.setIcount n).mem = s.mem := rfl
@[simp] theorem State.setIcount_cfg (n : Nat) : (s.setIcount n).cfg = s.cfg := rfl
@[simp] theorem State.setIcount_shadow (n : Nat) : (s.setIcount n).shadow = s.shadow := rfl
@[simp] theorem State.setIcount_loggedPorts (n : Nat) : (s.setIcount n).loggedPorts = s.loggedPorts := rfl
@[simp] theorem State.setIcount_hookLog (n : Nat) : (s.setIcount n).hookLog = s.hookLog := rfl
@[simp] theorem State.setIcount_events (n : Nat) : (s.setIcount n).events = s.events := rfl
@[simp] theorem State.setIcount_inputs (n : Nat) : (s.setIcount n).inputs = s.inputs := rfl
@[simp] theorem State.setIcount_freeCount (n : Nat) : (s.setIcount n).freeCount = s.freeCount := rfl
@[simp] theorem State.setIcount_reg (n : Nat) (r : Reg) : (s.setIcount n).reg r = s.reg r := by cases r <;> rfl

/-! ### setHalt -/

@[simp] theorem State.setHalt_b (x : Bool) (y : HaltCause) : (s.setHalt x y).b = s.b := rfl
@[simp] theorem State.setHalt_c (x : Bool) (y : HaltCause) : (s.setHalt x y).c = s.c := rfl
@[simp] theorem State.setHalt_d (x : Bool) (y : HaltCause) : (s.setHalt x y).d = s.d := rfl
@[simp] theorem State.setHalt_e (x : Bool) (y : HaltCause) : (s.setHalt x y).e = s.e := rfl
@[simp] theorem State.setHalt_h (x : Bool) (y : HaltCause) : (s.setHalt x y).h = s.h := rfl
@[simp] theorem State.setHalt_l (x : Bool) (y : HaltCause) : (s.setHalt x y).l = s.l := rfl
@[simp] theorem State.setHalt_a (x : Bool) (y : HaltCause) : (s.setHalt x y).a = s.a := rfl
@[simp] theorem State.setHalt_f (x : Bool) (y : HaltCause) : (s.setHalt x y).f = s.f := rfl
@[simp] theorem State.setHalt_sp (x : Bool) (y : HaltCause) : (s.setHalt x y).sp = s.sp := rfl
@[simp] theorem State.setHalt_pc (x : Bool) (y : HaltCause) : (s.setHalt x y).pc = s.pc := rfl
@[simp] theorem State.setHalt_icount (x : Bool) (y : HaltCause) : (s.setHalt x y).icount = s.icount := rfl
@[simp] theorem State.setHalt_halted (x : Bool) (y : HaltCause) : (s.setHalt x y).halted = x := rfl
@[simp] theorem State.setHalt_haltCause (x : Bool) (y : HaltCause) : (s.setHalt x y).haltCause = y := rfl
@[simp] theorem State.setHalt_mem (x : Bool) (y : HaltCause) : (s.setHalt x y).mem = s.mem := rfl
@[simp] theorem State.setHalt_cfg (x : Bool) (y : HaltCause) : (s.setHalt x y).cfg = s.cfg := rfl
@[simp] theorem State.setHalt_shadow (x : Bool) (y : HaltCause) : (s.setHalt x y).shadow = s.shadow := rfl
@[simp] theorem State.setHalt_loggedPorts (x : Bool) (y : HaltCause) : (s.setHalt x y).loggedPorts = s.loggedPorts := rfl
@[simp] theorem State.setHalt_hookLog (x : Bool) (y : HaltCause) : (s.setHalt x y).hookLog = s.hookLog := rfl
@[simp] theorem State.setHalt_events (x : Bool) (y : HaltCause) : (s.setHalt x y).events = s.events := rfl
@[simp] theorem State.setHalt_inputs (x : Bool) (y : HaltCause) : (s.setHalt x y).inputs = s.inputs := rfl
@[simp] theorem State.setHalt_freeCount (x : Bool) (y : HaltCause) : (s.setHalt x y).freeCount = s.freeCount := rfl
@[simp] theorem State.setHalt_reg (x : Bool) (y : HaltCause) (r : Reg) : (s.setHalt x y).reg r = s.reg r := by cases r <;> rfl

/-! ### setMem -/

@[simp] theorem State.setMem_b (m : Memory) : (s.setMem m).b = s.b := rfl
@[simp] theorem State.setMem_c (m : Memory) : (s.setMem m).c = s.c := rfl
@[simp] theorem State.setMem_d (m : Memory) : (s.setMem m).d = s.d := rfl
@[simp] theorem State.setMem_e (m : Memory) : (s.setMem m).e = s.e := rfl
@[simp] theorem State.setMem_h (m : Memory) : (s.setMem m).h = s.h := rfl
@[simp] theorem State.setMem_l (m : Memory) : (s.setMem m).l = s.l := rfl
@[simp] theorem State.setMem_a (m : Memory) : (s.setMem m).a = s.a := rfl
@[simp] theorem State.setMem_f (m : Memory) : (s.setMem m).f = s.f := rfl
@[simp] theorem State.setMem_sp (m : Memory) : (s.setMem m).sp = s.sp := rfl
@[simp] theorem State.setMem_pc (m : Memory) : (s.setMem m).pc = s.pc := rfl
@[simp] theorem State.setMem_icount (m : Memory) : (s.setMem m).icount = s.icount := rfl
@[simp] theorem State.setMem_halted (m : Memory) : (s.setMem m).halted = s.halted := rfl
@[simp] theorem State.setMem_haltCause (m : Memory) : (s.setMem m).haltCause = s.haltCause := rfl
@[simp] theorem State.setMem_mem (m : Memory) : (s.setMem m).mem = m := rfl
@[simp] theorem State.setMem_cfg (m : Memory) : (s.setMem m).cfg = s.cfg := rfl
@[simp] theorem State.setMem_shadow (m : Memory) : (s.setMem m).shadow = s.shadow := rfl
@[simp] theorem State.setMem_loggedPorts (m : Memory) : (s.setMem m).loggedPorts = s.loggedPorts := rfl
@[simp] theorem State.setMem_hookLog (m : Memory) : (s.setMem m).hookLog = s.hookLog := rfl
@[simp] theorem State.setMem_events (m : Memory) : (s.setMem m).events = s.events := rfl
@[simp] theorem State.setMem_inputs (m : Memory) : (s.setMem m).inputs = s.inputs := rfl
@[simp] theorem State.setMem_freeCount (m : Memory) : (s.setMem m).freeCount = s.freeCount := rfl
@[simp] theorem State.setMem_reg (m : Memory) (r : Reg) : (s.setMem m).reg r = s.reg r := by cases r <;> rfl

/-! ### setCfg -/

@[simp] theorem State.setCfg_b (k : HostConfig) : (s.setCfg k).b = s.b := rfl
@[simp] theorem State.setCfg_c (k : HostConfig) : (s.setCfg k).c = s.c := rfl
@[simp] theorem State.setCfg_d (k : HostConfig) : (s.setCfg k).d = s.d := rfl
@[simp] theorem State.setCfg_e (k : HostConfig) : (s.setCfg k).e = s.e := rfl
@[simp] theorem State.setCfg_h (k : HostConfig) : (s.setCfg k).h = s.h := rfl
@[simp] theorem State.setCfg_l (k : HostConfig) : (s.setCfg k).l = s.l := rfl
@[simp] theorem State.setCfg_a (k : HostConfig) : (s.setCfg k).a = s.a := rfl
@[simp] theorem State.setCfg_f (k : HostConfig) : (s.setCfg k).f = s.f := rfl
@[simp] theorem State.setCfg_sp (k : HostConfig) : (s.setCfg k).sp = s.sp := rfl
@[simp] theorem State.setCfg_pc (k : HostConfig) : (s.setCfg k).pc = s.pc := rfl
@[simp] theorem State.setCfg_icount (k : HostConfig) : (s.setCfg k).icount = s.icount := rfl
@[simp] theorem State.setCfg_halted (k : HostConfig) : (s.setCfg k).halted = s.halted := rfl
@[simp] theorem State.setCfg_haltCause (k : HostConfig) : (s.setCfg k).haltCause = s.haltCause := rfl
@[simp] theorem State.setCfg_mem (k : HostConfig) : (s.setCfg k).mem = s.mem := rfl
@[simp] theorem State.setCfg_cfg (k : HostConfig) : (s.setCfg k).cfg = k := rfl
@[simp] theorem State.setCfg_shadow (k : HostConfig) : (s.setCfg k).shadow = s.shadow := rfl
@[simp] theorem State.setCfg_loggedPorts (k : HostConfig) : (s.setCfg k).loggedPorts = s.loggedPorts := rfl
@[simp] theorem State.setCfg_hookLog (k : HostConfig) : (s.setCfg k).hookLog = s.hookLog := rfl
@[simp] theorem State.setCfg_events (k : HostConfig) : (s.setCfg k).events = s.events := rfl
@[simp] theorem State.setCfg_inputs (k : HostConfig) : (s.setCfg k).inputs = s.inputs := rfl
@[simp] theorem State.setCfg_freeCount (k : HostConfig) : (s.setCfg k).freeCount = s.freeCount := rfl
@[simp] theorem State.setCfg_reg (k : HostConfig) (r : Reg) : (s.setCfg k).reg r = s.reg r := by cases r <;> rfl

/-! ### setShadow -/

@[simp] theorem State.setShadow_b (fs : List Frame) : (s.setShadow fs).b = s.b := rfl
@[simp] theorem State.setShadow_c (fs : List Frame) : (s.setShadow fs).c = s.c := rfl
@[simp] theorem State.setShadow_d (fs : List Frame) : (s.setShadow fs).d = s.d := rfl
@[simp] theorem State.setShadow_e (fs : List Frame) : (s.setShadow fs).e = s.e := rfl
@[simp] theorem State.setShadow_h (fs : List Frame) : (s.setShadow fs).h = s.h := rfl
@[simp] theorem State.setShadow_l (fs : List Frame) : (s.setShadow fs).l = s.l := rfl
@[simp] theorem State.setShadow_a (fs : List Frame) : (s.setShadow fs).a = s.a := rfl
@[simp] theorem State.setShadow_f (fs : List Frame) : (s.setShadow fs).f = s.f := rfl
@[simp] theorem State.setShadow_sp (fs : List Frame) : (s.setShadow fs).sp = s.sp := rfl
@[simp] theorem State.setShadow_pc (fs : List Frame) : (s.setShadow fs).pc = s.pc := rfl
@[simp] theorem State.setShadow_icount (fs : List Frame) : (s.setShadow fs).icount = s.icount := rfl
@[simp] theorem State.setShadow_halted (fs : List Frame) : (s.setShadow fs).halted = s.halted := rfl
@[simp] theorem State.setShadow_haltCause (fs : List Frame) : (s.setShadow fs).haltCause = s.haltCause := rfl
@[simp] theorem State.setShadow_mem (fs : List Frame) : (s.setShadow fs).mem = s.mem := rfl
@[simp] theorem State.setShadow_cfg (fs : List Frame) : (s.setShadow fs).cfg = s.cfg := rfl
@[simp] theorem State.setShadow_shadow (fs : List Frame) : (s.setShadow fs).shadow = fs := rfl
@[simp] theorem State.setShadow_loggedPorts (fs : List Frame) : (s.setShadow fs).loggedPorts = s.loggedPorts := rfl
@[simp] theorem State.setShadow_hookLog (fs : List Frame) : (s.setShadow fs).hookLog = s.hookLog := rfl
@[simp] theorem State.setShadow_events (fs : List Frame) : (s.setShadow fs).events = s.events := rfl
@[simp] theorem State.setShadow_inputs (fs : List Frame) : (s.setShadow fs).inputs = s.inputs := rfl
@[simp] theorem State.setShadow_freeCount (fs : List Frame) : (s.setShadow fs).freeCount = s.freeCount := rfl
@[simp] theorem State.setShadow_reg (fs : List Frame) (r : Reg) : (s.setShadow fs).reg r = s.reg r := by cases r <;> rfl

/-! ### setLoggedPorts -/

@[simp] theorem State.setLoggedPorts_b (ps : List Byte) : (s.setLoggedPorts ps).b = s.b := rfl
@[simp] theorem State.setLoggedPorts_c (ps : List Byte) : (s.setLoggedPorts ps).c = s.c := rfl
@[simp] theorem State.setLoggedPorts_d (ps : List Byte) : (s.setLoggedPorts ps).d = s.d := rfl
@[simp] theorem State.setLoggedPorts_e (ps : List Byte) : (s.setLoggedPorts ps).e = s.e := rfl
@[simp] theorem State.setLoggedPorts_h (ps : List Byte) : (s.setLoggedPorts ps).h = s.h := rfl
@[simp] theorem State.setLoggedPorts_l (ps : List Byte) : (s.setLoggedPorts ps).l = s.l := rfl
@[simp] theorem State.setLoggedPorts_a (ps : List Byte) : (s.setLoggedPorts ps).a = s.a := rfl
@[simp] theorem State.setLoggedPorts_f (ps : List Byte) : (s.setLoggedPorts ps).f = s.f := rfl
@[simp] theorem State.setLoggedPorts_sp (ps : List Byte) : (s.setLoggedPorts ps).sp = s.sp := rfl
@[simp] theorem State.setLoggedPorts_pc (ps : List Byte) : (s.setLoggedPorts ps).pc = s.pc := rfl
@[simp] theorem State.setLoggedPorts_icount (ps : List Byte) : (s.setLoggedPorts ps).icount = s.icount := rfl
@[simp] theorem State.setLoggedPorts_halted (ps : List Byte) : (s.setLoggedPorts ps).halted = s.halted := rfl
@[simp] theorem State.setLoggedPorts_haltCause (ps : List Byte) : (s.setLoggedPorts ps).haltCause = s.haltCause := rfl
@[simp] theorem State.setLoggedPorts_mem (ps : List Byte) : (s.setLoggedPorts ps).mem = s.mem := rfl
@[simp] theorem State.setLoggedPorts_cfg (ps : List Byte) : (s.setLoggedPorts ps).cfg = s.cfg := rfl
@[simp] theorem State.setLoggedPorts_shadow (ps : List Byte) : (s.setLoggedPorts ps).shadow = s.shadow := rfl
@[simp] theorem State.setLoggedPorts_loggedPorts (ps : List Byte) : (s.setLoggedPorts ps).loggedPorts = ps := rfl
@[simp] theorem State.setLoggedPorts_hookLog (ps : List Byte) : (s.setLoggedPorts ps).hookLog = s.hookLog := rfl
@[simp] theorem State.setLoggedPorts_events (ps : List Byte) : (s.setLoggedPorts ps).events = s.events := rfl
@[simp] theorem State.setLoggedPorts_inputs (ps : List Byte) : (s.setLoggedPorts ps).inputs = s.inputs := rfl
@[simp] theorem State.setLoggedPorts_freeCount (ps : List Byte) : (s.setLoggedPorts ps).freeCount = s.freeCount := rfl
@[simp] theorem State.setLoggedPorts_reg (ps : List Byte) (r : Reg) : (s.setLoggedPorts ps).reg r = s.reg r := by cases r <;> rfl

/-! ### setHookLog -/

@[simp] theorem State.setHookLog_b (hs : List Hook) : (s.setHookLog hs).b = s.b := rfl
@[simp] theorem State.setHookLog_c (hs : List Hook) : (s.setHookLog hs).c = s.c := rfl
@[simp] theorem State.setHookLog_d (hs : List Hook) : (s.setHookLog hs).d = s.d := rfl
@[simp] theorem State.setHookLog_e (hs : List Hook) : (s.setHookLog hs).e = s.e := rfl
@[simp] theorem State.setHookLog_h (hs : List Hook) : (s.setHookLog hs).h = s.h := rfl
@[simp] theorem State.setHookLog_l (hs : List Hook) : (s.setHookLog hs).l = s.l := rfl
@[simp] theorem State.setHookLog_a (hs : List Hook) : (s.setHookLog hs).a = s.a := rfl
@[simp] theorem State.setHookLog_f (hs : List Hook) : (s.setHookLog hs).f = s.f := rfl
@[simp] theorem State.setHookLog_sp (hs : List Hook) : (s.setHookLog hs).sp = s.sp := rfl
@[simp] theorem State.setHookLog_pc (hs : List Hook) : (s.setHookLog hs).pc = s.pc := rfl
@[simp] theorem State.setHookLog_icount (hs : List Hook) : (s.setHookLog hs).icount = s.icount := rfl
@[simp] theorem State.setHookLog_halted (hs : List Hook) : (s.setHookLog hs).halted = s.halted := rfl
@[simp] theorem State.setHookLog_haltCause (hs : List Hook) : (s.setHookLog hs).haltCause = s.haltCause := rfl
@[simp] theorem State.setHookLog_mem (hs : List Hook) : (s.setHookLog hs).mem = s.mem := rfl
@[simp] theorem State.setHookLog_cfg (hs : List Hook) : (s.setHookLog hs).cfg = s.cfg := rfl
@[simp] theorem State.setHookLog_shadow (hs : List Hook) : (s.setHookLog hs).shadow = s.shadow := rfl
@[simp] theorem State.setHookLog_loggedPorts (hs : List Hook) : (s.setHookLog hs).loggedPorts = s.loggedPorts := rfl
@[simp] theorem State.setHookLog_hookLog (hs : List Hook) : (s.setHookLog hs).hookLog = hs := rfl
@[simp] theorem State.setHookLog_events (hs : List Hook) : (s.setHookLog hs).events = s.events := rfl
@[simp] theorem State.setHookLog_inputs (hs : List Hook) : (s.setHookLog hs).inputs = s.inputs := rfl
@[simp] theorem State.setHookLog_freeCount (hs : List Hook) : (s.setHookLog hs).freeCount = s.freeCount := rfl
@[simp] theorem State.setHookLog_reg (hs : List Hook) (r : Reg) : (s.setHookLog hs).reg r = s.reg r := by cases r <;> rfl

/-! ### setEvents -/

@[simp] theorem State.setEvents_b (es : List Event) : (s.setEvents es).b = s.b := rfl
@[simp] theorem State.setEvents_c (es : List Event) : (s.setEvents es).c = s.c := rfl
@[simp] theorem State.setEvents_d (es : List Event) : (s.setEvents es).d = s.d := rfl
@[simp] theorem State.setEvents_e (es : List Event) : (s.setEvents es).e = s.e := rfl
@[simp] theorem State.setEvents_h (es : List Event) : (s.setEvents es).h = s.h := rfl
@[simp] theorem State.setEvents_l (es : List Event) : (s.setEvents es).l = s.l := rfl
@[simp] theorem State.setEvents_a (es : List Event) : (s.setEvents es).a = s.a := rfl
@[simp] theorem State.setEvents_f (es : List Event) : (s.setEvents es).f = s.f := rfl
@[simp] theorem State.setEvents_sp (es : List Event) : (s.setEvents es).sp = s.sp := rfl
@[simp] theorem State.setEvents_pc (es : List Event) : (s.setEvents es).pc = s.pc := rfl
@[simp] theorem State.setEvents_icount (es : List Event) : (s.setEvents es).icount = s.icount := rfl
@[simp] theorem State.setEvents_halted (es : List Event) : (s.setEvents es).halted = s.halted := rfl
@[simp] theorem State.setEvents_haltCause (es : List Event) : (s.setEvents es).haltCause = s.haltCause := rfl
@[simp] theorem State.setEvents_mem (es : List Event) : (s.setEvents es).mem = s.mem := rfl
@[simp] theorem State.setEvents_cfg (es : List Event) : (s.setEvents es).cfg = s.cfg := rfl
@[simp] theorem State.setEvents_shadow (es : List Event) : (s.setEvents es).shadow = s.shadow := rfl
@[simp] theorem State.setEvents_loggedPorts (es : List Event) : (s.setEvents es).loggedPorts = s.loggedPorts := rfl
@[simp] theorem State.setEvents_hookLog (es : List Event) : (s.setEvents es).hookLog = s.hookLog := rfl
@[simp] theorem State.setEvents_events (es : List Event) : (s.setEvents es).events = es := rfl
@[simp] theorem State.setEvents_inputs (es : List Event) : (s.setEvents es).inputs = s.inputs := rfl
@[simp] theorem State.setEvents_freeCount (es : List Event) : (s.setEvents es).freeCount = s.freeCount := rfl
@[simp] theorem State.setEvents_reg (es : List Event) (r : Reg) : (s.setEvents es).reg r = s.reg r := by cases r <;> rfl

/-! ### setInputs -/

@[simp] theorem State.setInputs_b (xs : List InAnswer) : (s.setInputs xs).b = s.b := rfl
@[simp] theorem State.setInputs_c (xs : List InAnswer) : (s.setInputs xs).c = s.c := rfl
@[simp] theorem State.setInputs_d (xs : List InAnswer) : (s.setInputs xs).d = s.d := rfl
@[simp] theorem State.setInputs_e (xs : List InAnswer) : (s.setInputs xs).e = s.e := rfl
@[simp] theorem State.setInputs_h (xs : List InAnswer) : (s.setInputs xs).h = s.h := rfl
@[simp] theorem State.setInputs_l (xs : List InAnswer) : (s.setInputs xs).l = s.l := rfl
@[simp] theorem State.setInputs_a (xs : List InAnswer) : (s.setInputs xs).a = s.a := rfl
@[simp] theorem State.setInputs_f (xs : List InAnswer) : (s.setInputs xs).f = s.f := rfl
@[simp] theorem State.setInputs_sp (xs : List InAnswer) : (s.setInputs xs).sp = s.sp := rfl
@[simp] theorem State.setInputs_pc (xs : List InAnswer) : (s.setInputs xs).pc = s.pc := rfl
@[simp] theorem State.setInputs_icount (xs : List InAnswer) : (s.setInputs xs).icount = s.icount := rfl
@[simp] theorem State.setInputs_halted (xs : List InAnswer) : (s.setInputs xs).halted = s.halted := rfl
@[simp] theorem State.setInputs_haltCause (xs : List InAnswer) : (s.setInputs xs).haltCause = s.haltCause := rfl
@[simp] theorem State.setInputs_mem (xs : List InAnswer) : (s.setInputs xs).mem = s.mem := rfl
@[simp] theorem State.setInputs_cfg (xs : List InAnswer) : (s.setInputs xs).cfg = s.cfg := rfl
@[simp] theorem State.setInputs_shadow (xs : List InAnswer) : (s.setInputs xs).shadow = s.shadow := rfl
@[simp] theorem State.setInputs_loggedPorts (xs : List InAnswer) : (s.setInputs xs).loggedPorts = s.loggedPorts := rfl
@[simp] theorem State.setInputs_hookLog (xs : List InAnswer) : (s.setInputs xs).hookLog = s.hookLog := rfl
@[simp] theorem State.setInputs_events (xs : List InAnswer) : (s.setInputs xs).events = s.events := rfl
@[simp] theorem State.setInputs_inputs (xs : List InAnswer) : (s.setInputs xs).inputs = xs := rfl
@[simp] theorem State.setInputs_freeCount (xs : List InAnswer) : (s.setInputs xs).freeCount = s.freeCount := rfl
@[simp] theorem State.setInputs_reg (xs : List InAnswer) (r : Reg) : (s.setInputs xs).reg r = s.reg r := by cases r <;> rfl

/-! ### setFreeCount -/

@[simp] theorem State.setFreeCount_b (n : Nat) : (s.setFreeCount n).b = s.b := rfl
@[simp] theorem State.setFreeCount_c (n : Nat) : (s.setFreeCount n).c = s.c := rfl
@[simp] theorem State.setFreeCount_d (n : Nat) : (s.setFreeCount n).d = s.d := rfl
@[simp] theorem State.setFreeCount_e (n : Nat) : (s.setFreeCount n).e = s.e := rfl
@[simp] theorem State.setFreeCount_h (n : Nat) : (s.setFreeCount n).h = s.h := rfl
@[simp] theorem State.setFreeCount_l (n : Nat) : (s.setFreeCount n).l = s.l := rfl
@[simp] theorem State.setFreeCount_a (n : Nat) : (s.setFreeCount n).a = s.a := rfl
@[simp] theorem State.setFreeCount_f (n : Nat) : (s.setFreeCount n).f = s.f := rfl
@[simp] theorem State.setFreeCount_sp (n : Nat) : (s.setFreeCount n).sp = s.sp := rfl
@[simp] theorem State.setFreeCount_pc (n : Nat) : (s.setFreeCount n).pc = s.pc := rfl
@[simp] theorem State.setFreeCount_icount (n : Nat) : (s.setFreeCount n).icount = s.icount := rfl
@[simp] theorem State.setFreeCount_halted (n : Nat) : (s.setFreeCount n).halted = s.halted := rfl
@[simp] theorem State.setFreeCount_haltCause (n : Nat) : (s.setFreeCount n).haltCause = s.haltCause := rfl
@[simp] theorem State.setFreeCount_mem (n : Nat) : (s.setFreeCount n).mem = s.mem := rfl
@[simp] theorem State.setFreeCount_cfg (n : Nat) : (s.setFreeCount n).cfg = s.cfg := rfl
@[simp] theorem State.setFreeCount_shadow (n : Nat) : (s.setFreeCount n).shadow = s.shadow := rfl
@[simp] theorem State.setFreeCount_loggedPorts (n : Nat) : (s.setFreeCount n).loggedPorts = s.loggedPorts := rfl
@[simp] theorem State.setFreeCount_hookLog (n : Nat) : (s.setFreeCount n).hookLog = s.hookLog := rfl
@[simp] theorem State.setFreeCount_events (n : Nat) : (s.setFreeCount n).events = s.events := rfl
@[simp] theorem State.setFreeCount_inputs (n : Nat) : (s.setFreeCount n).inputs = s.inputs := rfl
@[simp] theorem State.setFreeCount_freeCount (n : Nat) : (s.setFreeCount n).freeCount = n := rfl
@[simp] theorem State.setFreeCount_reg (n : Nat) (r : Reg) : (s.setFreeCount n).reg r = s.reg r := by cases r <;> rfl

/-! ### setReg -/

@[simp] theorem State.setReg_f (r : Reg) (v : Byte) : (s.setReg r v).f = s.f := by cases r <;> rfl
@[simp] theorem State.setReg_sp (r : Reg) (v : Byte) : (s.setReg r v).sp = s.sp := by cases r <;> rfl
@[simp] theorem State.setReg_pc (r : Reg) (v : Byte) : (s.setReg r v).pc = s.pc := by cases r <;> rfl
@[simp] theorem State.setReg_icount (r : Reg) (v : Byte) : (s.setReg r v).icount = s.icount := by cases r <;> rfl
@[simp] theorem State.setReg_halted (r : Reg) (v : Byte) : (s.setReg r v).halted = s.halted := by cases r <;> rfl
@[simp] theorem State.setReg_haltCause (r : Reg) (v : Byte) : (s.setReg r v).haltCause = s.haltCause := by cases r <;> rfl
@[simp] theorem State.setReg_mem (r : Reg) (v : Byte) : (s.setReg r v).mem = s.mem := by cases r <;> rfl
@[simp] theorem State.setReg_cfg (r : Reg) (v : Byte) : (s.setReg r v).cfg = s.cfg := by cases r <;> rfl
@[simp] theorem State.setReg_shadow (r : Reg) (v : Byte) : (s.setReg r v).shadow = s.shadow := by cases r <;> rfl
@[simp] theorem State.setReg_loggedPorts (r : Reg) (v : Byte) : (s.setReg r v).loggedPorts = s.loggedPorts := by cases r <;> rfl
@[simp] theorem State.setReg_hookLog (r : Reg) (v : Byte) : (s.setReg r v).hookLog = s.hookLog := by cases r <;> rfl
@[simp] theorem State.setReg_events (r : Reg) (v : Byte) : (s.setReg r v).events = s.events := by cases r <;> rfl
@[simp] theorem State.setReg_inputs (r : Reg) (v : Byte) : (s.setReg r v).inputs = s.inputs := by cases r <;> rfl
@[simp] theorem State.setReg_freeCount (r : Reg) (v : Byte) : (s.setReg r v).freeCount = s.freeCount := by cases r <;> rfl

/-- A register reads what was last written to it, and keeps its value when another is written. -/
@[simp] theorem State.setReg_reg (r q : Reg) (v : Byte) : (s.setReg r v).reg q = if q = r then v else s.reg q := by
  cases r <;> cases q <;> rfl

@[simp] theorem State.setReg_b (r : Reg) (v : Byte) : (s.setReg r v).b = if r = .b then v else s.b := by
  cases r <;> rfl
@[simp] theorem State.setReg_c (r : Reg) (v : Byte) : (s.setReg r v).c = if r = .c then v else s.c := by
  cases r <;> rfl
@[simp] theorem State.setReg_d (r : Reg) (v : Byte) : (s.setReg r v).d = if r = .d then v else s.d := by
  cases r <;> rfl
@[simp] theorem State.setReg_e (r : Reg) (v : Byte) : (s.setReg r v).e = if r = .e then v else s.e := by
  cases r <;> rfl
@[simp] theorem State.setReg_h (r : Reg) (v : Byte) : (s.setReg r v).h = if r = .h then v else s.h := by
  cases r <;> rfl
@[simp] theorem State.setReg_l (r : Reg) (v : Byte) : (s.setReg r v).l = if r = .l then v else s.l := by
  cases r <;> rfl
@[simp] theorem State.setReg_a (r : Reg) (v : Byte) : (s.setReg r v).a = if r = .a then v else s.a := by
  cases r <;> rfl

/-! ### The registers by name -/

@[simp] theorem State.reg_b : s.reg .b = s.b := rfl
@[simp] theorem State.reg_c : s.reg .c = s.c := rfl
@[simp] theorem State.reg_d : s.reg .d = s.d := rfl
@[simp] theorem State.reg_e : s.reg .e = s.e := rfl
@[simp] theorem State.reg_h : s.reg .h = s.h := rfl
@[simp] theorem State.reg_l : s.reg .l = s.l := rfl
@[simp] theorem State.reg_a : s.reg .a = s.a := rfl

/-! ### Equal states -/

/-- Two states that agree on every field are equal. -/
theorem State.eq_of_fields {s t : State}
    (h_b : s.b = t.b)
    (h_c : s.c = t.c)
    (h_d : s.d = t.d)
    (h_e : s.e = t.e)
    (h_h : s.h = t.h)
    (h_l : s.l = t.l)
    (h_a : s.a = t.a)
    (h_f : s.f = t.f)
    (h_sp : s.sp = t.sp)
    (h_pc : s.pc = t.pc)
    (h_icount : s.icount = t.icount)
    (h_halted : s.halted = t.halted)
    (h_haltCause : s.haltCause = t.haltCause)
    (h_mem : s.mem = t.mem)
    (h_cfg : s.cfg = t.cfg)
    (h_shadow : s.shadow = t.shadow)
    (h_loggedPorts : s.loggedPorts = t.loggedPorts)
    (h_hookLog : s.hookLog = t.hookLog)
    (h_events : s.events = t.events)
    (h_inputs : s.inputs = t.inputs)
    (h_freeCount : s.freeCount = t.freeCount) : s = t := by
  cases s; cases t; simp_all

end Sys2Proof.Machine
end

