-- ==== Sys2Proof/Laws/Ops.lean ====
section
/-! SUPPORT. What each shared operation over memory, halting, ports and the stack does, once: the fields it leaves alone (one
simp lemma each), and its effect in the words of Safety.lean. -/

namespace Sys2Proof.Machine

variable (s : State)

/-! ## Bytes of a word -/

theorem wordOf_bit (hi lo : Byte) (i : Nat) :
    (wordOf hi lo).getLsbD i = if i < 8 then lo.getLsbD i else hi.getLsbD (i - 8) := by
  have h := BitVec.getLsbD_append (x := hi) (y := lo) (i := i)
  exact h.trans (by split <;> simp_all)

theorem lo8_bit (w : Word) (i : Nat) (h : i < 8) : (lo8 w).getLsbD i = w.getLsbD i := by
  simp only [lo8, BitVec.getLsbD_extractLsb', h, decide_true, Bool.true_and, Nat.zero_add]

theorem hi8_bit (w : Word) (i : Nat) (h : i < 8) : (hi8 w).getLsbD i = w.getLsbD (8 + i) := by
  simp only [hi8, BitVec.getLsbD_extractLsb', h, decide_true, Bool.true_and]

@[simp] theorem lo8_wordOf (hi lo : Byte) : lo8 (wordOf hi lo) = lo :=
  BitVec.eq_of_getLsbD_eq fun i h => by rw [lo8_bit _ _ h, wordOf_bit, if_pos h]

@[simp] theorem hi8_wordOf (hi lo : Byte) : hi8 (wordOf hi lo) = hi :=
  BitVec.eq_of_getLsbD_eq fun i h => by simp [hi8_bit _ _ h, wordOf_bit]

@[simp] theorem wordOf_hi8_lo8 (w : Word) : wordOf (hi8 w) (lo8 w) = w :=
  BitVec.eq_of_getLsbD_eq fun i h => by
    rw [wordOf_bit]
    split
    · exact lo8_bit w i ‹_›
    · rw [hi8_bit w _ (by omega), show 8 + (i - 8) = i by omega]

theorem wordOf_toNat (hi lo : Byte) : (wordOf hi lo).toNat = hi.toNat * 256 + lo.toNat := by
  have h := lo.isLt
  simp only [wordOf, BitVec.toNat_append, Nat.shiftLeft_eq]
  rw [show (2 : Nat) ^ 8 = 256 by norm_num, Nat.mul_comm, ← show (2 : Nat) ^ 8 = 256 by norm_num,
    Nat.two_pow_add_eq_or_of_lt (by simpa using h)]

theorem lo8_toNat (w : Word) : (lo8 w).toNat = w.toNat % 256 := by simp [lo8]

theorem hi8_toNat (w : Word) : (hi8 w).toNat = w.toNat / 256 := by
  have := w.isLt
  simp [hi8, Nat.shiftRight_eq_div_pow]
  omega

/-! ## Reads depend on memory only -/

theorem memRead_of_mem {s t : State} (h : t.mem = s.mem) (a : Word) : memRead t a = memRead s a := by simp [memRead, h]

@[simp] theorem memRead_setF (v : Byte) (a : Word) : memRead (s.setF v) a = memRead s a := memRead_of_mem (by simp) a
@[simp] theorem memRead_setSp (w : Word) (a : Word) : memRead (s.setSp w) a = memRead s a := memRead_of_mem (by simp) a
@[simp] theorem memRead_setPc (w : Word) (a : Word) : memRead (s.setPc w) a = memRead s a := memRead_of_mem (by simp) a
@[simp] theorem memRead_setIcount (n : Nat) (a : Word) : memRead (s.setIcount n) a = memRead s a := memRead_of_mem (by simp) a
@[simp] theorem memRead_setHalt (p : Bool) (x : HaltCause) (a : Word) : memRead (s.setHalt p x) a = memRead s a := memRead_of_mem (by simp) a
@[simp] theorem memRead_setShadow (fs : List Frame) (a : Word) : memRead (s.setShadow fs) a = memRead s a := memRead_of_mem (by simp) a
@[simp] theorem memRead_setLoggedPorts (ps : List Byte) (a : Word) : memRead (s.setLoggedPorts ps) a = memRead s a := memRead_of_mem (by simp) a
@[simp] theorem memRead_setHookLog (hs : List Hook) (a : Word) : memRead (s.setHookLog hs) a = memRead s a := memRead_of_mem (by simp) a
@[simp] theorem memRead_setEvents (es : List Event) (a : Word) : memRead (s.setEvents es) a = memRead s a := memRead_of_mem (by simp) a
@[simp] theorem memRead_setInputs (xs : List InAnswer) (a : Word) : memRead (s.setInputs xs) a = memRead s a := memRead_of_mem (by simp) a
@[simp] theorem memRead_setFreeCount (n : Nat) (a : Word) : memRead (s.setFreeCount n) a = memRead s a := memRead_of_mem (by simp) a
@[simp] theorem memRead_setReg (r : Reg) (v : Byte) (a : Word) : memRead (s.setReg r v) a = memRead s a := memRead_of_mem (by simp) a
@[simp] theorem memRead_setCfg (k : HostConfig) (a : Word) : memRead (s.setCfg k) a = memRead s a := memRead_of_mem (by simp) a

@[simp] theorem memRead_setMem_write_same (a : Word) (v : Byte) :
    memRead (s.setMem (Memory.write s.mem a.toNat v)) a = v := by simp [memRead]

theorem memRead_setMem_write_other {a x : Word} (v : Byte) (h : x ≠ a) :
    memRead (s.setMem (Memory.write s.mem a.toNat v)) x = memRead s x := by
  have : x.toNat ≠ a.toNat := fun e => h (BitVec.eq_of_toNat_eq e)
  simp [memRead, Memory.read_write_other _ _ this]

/-! ## The pairs -/

@[simp] theorem State.setBc_bc (w : Word) : (s.setBc w).bc = w := by simp [State.setBc, State.bc]
@[simp] theorem State.setBc_reg (w : Word) (r : Reg) :
    (s.setBc w).reg r = if r = .c then lo8 w else if r = .b then hi8 w else s.reg r := by
  simp [State.setBc]
@[simp] theorem memRead_setBc (w : Word) (a : Word) : memRead (s.setBc w) a = memRead s a := by simp [State.setBc]
@[simp] theorem State.setBc_d (w : Word) : (s.setBc w).d = s.d := by simp [State.setBc]
@[simp] theorem State.setBc_e (w : Word) : (s.setBc w).e = s.e := by simp [State.setBc]
@[simp] theorem State.setBc_h (w : Word) : (s.setBc w).h = s.h := by simp [State.setBc]
@[simp] theorem State.setBc_l (w : Word) : (s.setBc w).l = s.l := by simp [State.setBc]
@[simp] theorem State.setBc_a (w : Word) : (s.setBc w).a = s.a := by simp [State.setBc]
@[simp] theorem State.setBc_f (w : Word) : (s.setBc w).f = s.f := by simp [State.setBc]
@[simp] theorem State.setBc_sp (w : Word) : (s.setBc w).sp = s.sp := by simp [State.setBc]
@[simp] theorem State.setBc_pc (w : Word) : (s.setBc w).pc = s.pc := by simp [State.setBc]
@[simp] theorem State.setBc_icount (w : Word) : (s.setBc w).icount = s.icount := by simp [State.setBc]
@[simp] theorem State.setBc_halted (w : Word) : (s.setBc w).halted = s.halted := by simp [State.setBc]
@[simp] theorem State.setBc_haltCause (w : Word) : (s.setBc w).haltCause = s.haltCause := by simp [State.setBc]
@[simp] theorem State.setBc_mem (w : Word) : (s.setBc w).mem = s.mem := by simp [State.setBc]
@[simp] theorem State.setBc_cfg (w : Word) : (s.setBc w).cfg = s.cfg := by simp [State.setBc]
@[simp] theorem State.setBc_shadow (w : Word) : (s.setBc w).shadow = s.shadow := by simp [State.setBc]
@[simp] theorem State.setBc_loggedPorts (w : Word) : (s.setBc w).loggedPorts = s.loggedPorts := by simp [State.setBc]
@[simp] theorem State.setBc_hookLog (w : Word) : (s.setBc w).hookLog = s.hookLog := by simp [State.setBc]
@[simp] theorem State.setBc_events (w : Word) : (s.setBc w).events = s.events := by simp [State.setBc]
@[simp] theorem State.setBc_inputs (w : Word) : (s.setBc w).inputs = s.inputs := by simp [State.setBc]
@[simp] theorem State.setBc_freeCount (w : Word) : (s.setBc w).freeCount = s.freeCount := by simp [State.setBc]
@[simp] theorem State.setBc_b (w : Word) : (s.setBc w).b = hi8 w := by simp [State.setBc]
@[simp] theorem State.setBc_c (w : Word) : (s.setBc w).c = lo8 w := by simp [State.setBc]

@[simp] theorem State.setDe_de (w : Word) : (s.setDe w).de = w := by simp [State.setDe, State.de]
@[simp] theorem State.setDe_reg (w : Word) (r : Reg) :
    (s.setDe w).reg r = if r = .e then lo8 w else if r = .d then hi8 w else s.reg r := by
  simp [State.setDe]
@[simp] theorem memRead_setDe (w : Word) (a : Word) : memRead (s.setDe w) a = memRead s a := by simp [State.setDe]
@[simp] theorem State.setDe_b (w : Word) : (s.setDe w).b = s.b := by simp [State.setDe]
@[simp] theorem State.setDe_c (w : Word) : (s.setDe w).c = s.c := by simp [State.setDe]
@[simp] theorem State.setDe_h (w : Word) : (s.setDe w).h = s.h := by simp [State.setDe]
@[simp] theorem State.setDe_l (w : Word) : (s.setDe w).l = s.l := by simp [State.setDe]
@[simp] theorem State.setDe_a (w : Word) : (s.setDe w).a = s.a := by simp [State.setDe]
@[simp] theorem State.setDe_f (w : Word) : (s.setDe w).f = s.f := by simp [State.setDe]
@[simp] theorem State.setDe_sp (w : Word) : (s.setDe w).sp = s.sp := by simp [State.setDe]
@[simp] theorem State.setDe_pc (w : Word) : (s.setDe w).pc = s.pc := by simp [State.setDe]
@[simp] theorem State.setDe_icount (w : Word) : (s.setDe w).icount = s.icount := by simp [State.setDe]
@[simp] theorem State.setDe_halted (w : Word) : (s.setDe w).halted = s.halted := by simp [State.setDe]
@[simp] theorem State.setDe_haltCause (w : Word) : (s.setDe w).haltCause = s.haltCause := by simp [State.setDe]
@[simp] theorem State.setDe_mem (w : Word) : (s.setDe w).mem = s.mem := by simp [State.setDe]
@[simp] theorem State.setDe_cfg (w : Word) : (s.setDe w).cfg = s.cfg := by simp [State.setDe]
@[simp] theorem State.setDe_shadow (w : Word) : (s.setDe w).shadow = s.shadow := by simp [State.setDe]
@[simp] theorem State.setDe_loggedPorts (w : Word) : (s.setDe w).loggedPorts = s.loggedPorts := by simp [State.setDe]
@[simp] theorem State.setDe_hookLog (w : Word) : (s.setDe w).hookLog = s.hookLog := by simp [State.setDe]
@[simp] theorem State.setDe_events (w : Word) : (s.setDe w).events = s.events := by simp [State.setDe]
@[simp] theorem State.setDe_inputs (w : Word) : (s.setDe w).inputs = s.inputs := by simp [State.setDe]
@[simp] theorem State.setDe_freeCount (w : Word) : (s.setDe w).freeCount = s.freeCount := by simp [State.setDe]
@[simp] theorem State.setDe_d (w : Word) : (s.setDe w).d = hi8 w := by simp [State.setDe]
@[simp] theorem State.setDe_e (w : Word) : (s.setDe w).e = lo8 w := by simp [State.setDe]

@[simp] theorem State.setHl_hl (w : Word) : (s.setHl w).hl = w := by simp [State.setHl, State.hl]
@[simp] theorem State.setHl_reg (w : Word) (r : Reg) :
    (s.setHl w).reg r = if r = .l then lo8 w else if r = .h then hi8 w else s.reg r := by
  simp [State.setHl]
@[simp] theorem memRead_setHl (w : Word) (a : Word) : memRead (s.setHl w) a = memRead s a := by simp [State.setHl]
@[simp] theorem State.setHl_b (w : Word) : (s.setHl w).b = s.b := by simp [State.setHl]
@[simp] theorem State.setHl_c (w : Word) : (s.setHl w).c = s.c := by simp [State.setHl]
@[simp] theorem State.setHl_d (w : Word) : (s.setHl w).d = s.d := by simp [State.setHl]
@[simp] theorem State.setHl_e (w : Word) : (s.setHl w).e = s.e := by simp [State.setHl]
@[simp] theorem State.setHl_a (w : Word) : (s.setHl w).a = s.a := by simp [State.setHl]
@[simp] theorem State.setHl_f (w : Word) : (s.setHl w).f = s.f := by simp [State.setHl]
@[simp] theorem State.setHl_sp (w : Word) : (s.setHl w).sp = s.sp := by simp [State.setHl]
@[simp] theorem State.setHl_pc (w : Word) : (s.setHl w).pc = s.pc := by simp [State.setHl]
@[simp] theorem State.setHl_icount (w : Word) : (s.setHl w).icount = s.icount := by simp [State.setHl]
@[simp] theorem State.setHl_halted (w : Word) : (s.setHl w).halted = s.halted := by simp [State.setHl]
@[simp] theorem State.setHl_haltCause (w : Word) : (s.setHl w).haltCause = s.haltCause := by simp [State.setHl]
@[simp] theorem State.setHl_mem (w : Word) : (s.setHl w).mem = s.mem := by simp [State.setHl]
@[simp] theorem State.setHl_cfg (w : Word) : (s.setHl w).cfg = s.cfg := by simp [State.setHl]
@[simp] theorem State.setHl_shadow (w : Word) : (s.setHl w).shadow = s.shadow := by simp [State.setHl]
@[simp] theorem State.setHl_loggedPorts (w : Word) : (s.setHl w).loggedPorts = s.loggedPorts := by simp [State.setHl]
@[simp] theorem State.setHl_hookLog (w : Word) : (s.setHl w).hookLog = s.hookLog := by simp [State.setHl]
@[simp] theorem State.setHl_events (w : Word) : (s.setHl w).events = s.events := by simp [State.setHl]
@[simp] theorem State.setHl_inputs (w : Word) : (s.setHl w).inputs = s.inputs := by simp [State.setHl]
@[simp] theorem State.setHl_freeCount (w : Word) : (s.setHl w).freeCount = s.freeCount := by simp [State.setHl]
@[simp] theorem State.setHl_h (w : Word) : (s.setHl w).h = hi8 w := by simp [State.setHl]
@[simp] theorem State.setHl_l (w : Word) : (s.setHl w).l = lo8 w := by simp [State.setHl]

/-! ## raise -/

@[simp] theorem raise_b (x : HaltCause) : (raise x s).b = s.b := by simp [raise]
@[simp] theorem raise_c (x : HaltCause) : (raise x s).c = s.c := by simp [raise]
@[simp] theorem raise_d (x : HaltCause) : (raise x s).d = s.d := by simp [raise]
@[simp] theorem raise_e (x : HaltCause) : (raise x s).e = s.e := by simp [raise]
@[simp] theorem raise_h (x : HaltCause) : (raise x s).h = s.h := by simp [raise]
@[simp] theorem raise_l (x : HaltCause) : (raise x s).l = s.l := by simp [raise]
@[simp] theorem raise_a (x : HaltCause) : (raise x s).a = s.a := by simp [raise]
@[simp] theorem raise_f (x : HaltCause) : (raise x s).f = s.f := by simp [raise]
@[simp] theorem raise_sp (x : HaltCause) : (raise x s).sp = s.sp := by simp [raise]
@[simp] theorem raise_pc (x : HaltCause) : (raise x s).pc = s.pc := by simp [raise]
@[simp] theorem raise_icount (x : HaltCause) : (raise x s).icount = s.icount := by simp [raise]
@[simp] theorem raise_mem (x : HaltCause) : (raise x s).mem = s.mem := by simp [raise]
@[simp] theorem raise_cfg (x : HaltCause) : (raise x s).cfg = s.cfg := by simp [raise]
@[simp] theorem raise_shadow (x : HaltCause) : (raise x s).shadow = s.shadow := by simp [raise]
@[simp] theorem raise_loggedPorts (x : HaltCause) : (raise x s).loggedPorts = s.loggedPorts := by simp [raise]
@[simp] theorem raise_hookLog (x : HaltCause) : (raise x s).hookLog = s.hookLog := by simp [raise]
@[simp] theorem raise_events (x : HaltCause) : (raise x s).events = s.events := by simp [raise]
@[simp] theorem raise_inputs (x : HaltCause) : (raise x s).inputs = s.inputs := by simp [raise]
@[simp] theorem raise_freeCount (x : HaltCause) : (raise x s).freeCount = s.freeCount := by simp [raise]
@[simp] theorem raise_reg (x : HaltCause) (r : Reg) : (raise x s).reg r = s.reg r := by simp [raise]
@[simp] theorem memRead_raise (x : HaltCause) (a : Word) : memRead (raise x s) a = memRead s a := by simp [raise]

/-- A raise halts the core and keeps the first cause (60_exceptions.md R241). -/
theorem raise_halts (x : HaltCause) : Halts x s (raise x s) := by simp [Halts, raise]

/-- The same, when the raise comes after changes that leave the cause alone. -/
theorem raise_halts_of {s u : State} (x : HaltCause) (h : u.haltCause = s.haltCause) : Halts x s (raise x u) :=
  ⟨rfl, by rw [raise, State.setHalt_haltCause, h]⟩

theorem raise_eq (x : HaltCause) :
    raise x s = { s with halted := (raise x s).halted, haltCause := (raise x s).haltCause } := rfl

/-! ## record and notify -/

@[simp] theorem record_b (e : Event) : (record e s).b = s.b := by simp [record]
@[simp] theorem record_c (e : Event) : (record e s).c = s.c := by simp [record]
@[simp] theorem record_d (e : Event) : (record e s).d = s.d := by simp [record]
@[simp] theorem record_e (e : Event) : (record e s).e = s.e := by simp [record]
@[simp] theorem record_h (e : Event) : (record e s).h = s.h := by simp [record]
@[simp] theorem record_l (e : Event) : (record e s).l = s.l := by simp [record]
@[simp] theorem record_a (e : Event) : (record e s).a = s.a := by simp [record]
@[simp] theorem record_f (e : Event) : (record e s).f = s.f := by simp [record]
@[simp] theorem record_sp (e : Event) : (record e s).sp = s.sp := by simp [record]
@[simp] theorem record_pc (e : Event) : (record e s).pc = s.pc := by simp [record]
@[simp] theorem record_icount (e : Event) : (record e s).icount = s.icount := by simp [record]
@[simp] theorem record_halted (e : Event) : (record e s).halted = s.halted := by simp [record]
@[simp] theorem record_haltCause (e : Event) : (record e s).haltCause = s.haltCause := by simp [record]
@[simp] theorem record_mem (e : Event) : (record e s).mem = s.mem := by simp [record]
@[simp] theorem record_cfg (e : Event) : (record e s).cfg = s.cfg := by simp [record]
@[simp] theorem record_shadow (e : Event) : (record e s).shadow = s.shadow := by simp [record]
@[simp] theorem record_loggedPorts (e : Event) : (record e s).loggedPorts = s.loggedPorts := by simp [record]
@[simp] theorem record_hookLog (e : Event) : (record e s).hookLog = s.hookLog := by simp [record]
@[simp] theorem record_inputs (e : Event) : (record e s).inputs = s.inputs := by simp [record]
@[simp] theorem record_freeCount (e : Event) : (record e s).freeCount = s.freeCount := by simp [record]
@[simp] theorem record_events (e : Event) : (record e s).events = s.events ++ [e] := rfl
@[simp] theorem record_reg (e : Event) (r : Reg) : (record e s).reg r = s.reg r := by simp [record]
@[simp] theorem memRead_record (e : Event) (a : Word) : memRead (record e s) a = memRead s a := by simp [record]

@[simp] theorem notify_b (a : Word) (x y : Byte) : (notify a x y s).b = s.b := by unfold notify; split <;> simp
@[simp] theorem notify_c (a : Word) (x y : Byte) : (notify a x y s).c = s.c := by unfold notify; split <;> simp
@[simp] theorem notify_d (a : Word) (x y : Byte) : (notify a x y s).d = s.d := by unfold notify; split <;> simp
@[simp] theorem notify_e (a : Word) (x y : Byte) : (notify a x y s).e = s.e := by unfold notify; split <;> simp
@[simp] theorem notify_h (a : Word) (x y : Byte) : (notify a x y s).h = s.h := by unfold notify; split <;> simp
@[simp] theorem notify_l (a : Word) (x y : Byte) : (notify a x y s).l = s.l := by unfold notify; split <;> simp
@[simp] theorem notify_a (a : Word) (x y : Byte) : (notify a x y s).a = s.a := by unfold notify; split <;> simp
@[simp] theorem notify_f (a : Word) (x y : Byte) : (notify a x y s).f = s.f := by unfold notify; split <;> simp
@[simp] theorem notify_sp (a : Word) (x y : Byte) : (notify a x y s).sp = s.sp := by unfold notify; split <;> simp
@[simp] theorem notify_pc (a : Word) (x y : Byte) : (notify a x y s).pc = s.pc := by unfold notify; split <;> simp
@[simp] theorem notify_icount (a : Word) (x y : Byte) : (notify a x y s).icount = s.icount := by unfold notify; split <;> simp
@[simp] theorem notify_halted (a : Word) (x y : Byte) : (notify a x y s).halted = s.halted := by unfold notify; split <;> simp
@[simp] theorem notify_haltCause (a : Word) (x y : Byte) : (notify a x y s).haltCause = s.haltCause := by unfold notify; split <;> simp
@[simp] theorem notify_mem (a : Word) (x y : Byte) : (notify a x y s).mem = s.mem := by unfold notify; split <;> simp
@[simp] theorem notify_cfg (a : Word) (x y : Byte) : (notify a x y s).cfg = s.cfg := by unfold notify; split <;> simp
@[simp] theorem notify_shadow (a : Word) (x y : Byte) : (notify a x y s).shadow = s.shadow := by unfold notify; split <;> simp
@[simp] theorem notify_loggedPorts (a : Word) (x y : Byte) : (notify a x y s).loggedPorts = s.loggedPorts := by unfold notify; split <;> simp
@[simp] theorem notify_hookLog (a : Word) (x y : Byte) : (notify a x y s).hookLog = s.hookLog := by unfold notify; split <;> simp
@[simp] theorem notify_inputs (a : Word) (x y : Byte) : (notify a x y s).inputs = s.inputs := by unfold notify; split <;> simp
@[simp] theorem notify_freeCount (a : Word) (x y : Byte) : (notify a x y s).freeCount = s.freeCount := by unfold notify; split <;> simp
@[simp] theorem notify_reg (a : Word) (x y : Byte) (r : Reg) : (notify a x y s).reg r = s.reg r := by
  unfold notify; split <;> simp
@[simp] theorem memRead_notify (a : Word) (x y : Byte) (b : Word) : memRead (notify a x y s) b = memRead s b := by
  unfold notify; split <;> simp

/-- A notification adds the event of the device whose range holds the address, if there is one (20_memory.md R44). -/
theorem notify_events (a : Word) (x y : Byte) : (notify a x y s).events = s.events ++ notices s a x y := by
  have h : (fun r : MmioRange => inMmioRange r a) = fun r => decide (r.first ≤ a ∧ a ≤ r.last) := by
    funext r; simp [inMmioRange, BitVec.le_def]
  unfold notify deviceAt notices
  rw [h]
  cases s.cfg.mmio.find? (fun r => decide (r.first ≤ a ∧ a ≤ r.last)) <;> simp [record]

theorem notify_eq (a : Word) (x y : Byte) : notify a x y s = { s with events := (notify a x y s).events } := by
  unfold notify; split <;> rfl

/-! ## memWrite -/

@[simp] theorem memWrite_b (a : Word) (v : Byte) : (memWrite a v s).b = s.b := by unfold memWrite; split <;> simp
@[simp] theorem memWrite_c (a : Word) (v : Byte) : (memWrite a v s).c = s.c := by unfold memWrite; split <;> simp
@[simp] theorem memWrite_d (a : Word) (v : Byte) : (memWrite a v s).d = s.d := by unfold memWrite; split <;> simp
@[simp] theorem memWrite_e (a : Word) (v : Byte) : (memWrite a v s).e = s.e := by unfold memWrite; split <;> simp
@[simp] theorem memWrite_h (a : Word) (v : Byte) : (memWrite a v s).h = s.h := by unfold memWrite; split <;> simp
@[simp] theorem memWrite_l (a : Word) (v : Byte) : (memWrite a v s).l = s.l := by unfold memWrite; split <;> simp
@[simp] theorem memWrite_a (a : Word) (v : Byte) : (memWrite a v s).a = s.a := by unfold memWrite; split <;> simp
@[simp] theorem memWrite_f (a : Word) (v : Byte) : (memWrite a v s).f = s.f := by unfold memWrite; split <;> simp
@[simp] theorem memWrite_sp (a : Word) (v : Byte) : (memWrite a v s).sp = s.sp := by unfold memWrite; split <;> simp
@[simp] theorem memWrite_pc (a : Word) (v : Byte) : (memWrite a v s).pc = s.pc := by unfold memWrite; split <;> simp
@[simp] theorem memWrite_icount (a : Word) (v : Byte) : (memWrite a v s).icount = s.icount := by unfold memWrite; split <;> simp
@[simp] theorem memWrite_cfg (a : Word) (v : Byte) : (memWrite a v s).cfg = s.cfg := by unfold memWrite; split <;> simp
@[simp] theorem memWrite_shadow (a : Word) (v : Byte) : (memWrite a v s).shadow = s.shadow := by unfold memWrite; split <;> simp
@[simp] theorem memWrite_loggedPorts (a : Word) (v : Byte) : (memWrite a v s).loggedPorts = s.loggedPorts := by unfold memWrite; split <;> simp
@[simp] theorem memWrite_hookLog (a : Word) (v : Byte) : (memWrite a v s).hookLog = s.hookLog := by unfold memWrite; split <;> simp
@[simp] theorem memWrite_inputs (a : Word) (v : Byte) : (memWrite a v s).inputs = s.inputs := by unfold memWrite; split <;> simp
@[simp] theorem memWrite_freeCount (a : Word) (v : Byte) : (memWrite a v s).freeCount = s.freeCount := by unfold memWrite; split <;> simp
@[simp] theorem memWrite_reg (a : Word) (v : Byte) (r : Reg) : (memWrite a v s).reg r = s.reg r := by
  unfold memWrite; split <;> simp

/-- The one lemma about a store (20_memory.md R44, 60_exceptions.md R244). -/
theorem memWrite_stored (a : Word) (v : Byte) : StoredByte a v s (memWrite a v s) := by
  by_cases h : a.toNat < s.cfg.romBoundary
  · have e : memWrite a v s = raise (.readOnlyViolation a v) s := by simp [memWrite, h]
    rw [e]
    refine ⟨fun x _ => by simp, rfl, ?_⟩
    simp [h, raise_halts]
  · have e : memWrite a v s = notify a (memRead s a) v (s.setMem (Memory.write s.mem a.toNat v)) := by
      simp [memWrite, h]
    rw [e]
    refine ⟨fun x hx => ?_, ?_, ?_⟩
    · rw [memRead_notify]; exact memRead_setMem_write_other s v (by simpa using hx)
    · conv_lhs => rw [notify_eq]
      simp [State.setMem]
    · simp only [h, if_false]
      exact ⟨by simp, by simp [SameHalt], by rw [notify_events]; rfl⟩

/-- A 16-bit store (20_memory.md R46). -/
theorem memWrite16_stored (a w : Word) : StoredWord a w s (memWrite16 a w s) :=
  ⟨_, memWrite_stored s a (lo8 w), memWrite_stored _ (a + 1) (hi8 w)⟩

@[simp] theorem memWrite16_b (a w : Word) : (memWrite16 a w s).b = s.b := by simp [memWrite16]
@[simp] theorem memWrite16_c (a w : Word) : (memWrite16 a w s).c = s.c := by simp [memWrite16]
@[simp] theorem memWrite16_d (a w : Word) : (memWrite16 a w s).d = s.d := by simp [memWrite16]
@[simp] theorem memWrite16_e (a w : Word) : (memWrite16 a w s).e = s.e := by simp [memWrite16]
@[simp] theorem memWrite16_h (a w : Word) : (memWrite16 a w s).h = s.h := by simp [memWrite16]
@[simp] theorem memWrite16_l (a w : Word) : (memWrite16 a w s).l = s.l := by simp [memWrite16]
@[simp] theorem memWrite16_a (a w : Word) : (memWrite16 a w s).a = s.a := by simp [memWrite16]
@[simp] theorem memWrite16_f (a w : Word) : (memWrite16 a w s).f = s.f := by simp [memWrite16]
@[simp] theorem memWrite16_sp (a w : Word) : (memWrite16 a w s).sp = s.sp := by simp [memWrite16]
@[simp] theorem memWrite16_pc (a w : Word) : (memWrite16 a w s).pc = s.pc := by simp [memWrite16]
@[simp] theorem memWrite16_icount (a w : Word) : (memWrite16 a w s).icount = s.icount := by simp [memWrite16]
@[simp] theorem memWrite16_cfg (a w : Word) : (memWrite16 a w s).cfg = s.cfg := by simp [memWrite16]
@[simp] theorem memWrite16_shadow (a w : Word) : (memWrite16 a w s).shadow = s.shadow := by simp [memWrite16]
@[simp] theorem memWrite16_loggedPorts (a w : Word) : (memWrite16 a w s).loggedPorts = s.loggedPorts := by simp [memWrite16]
@[simp] theorem memWrite16_hookLog (a w : Word) : (memWrite16 a w s).hookLog = s.hookLog := by simp [memWrite16]
@[simp] theorem memWrite16_inputs (a w : Word) : (memWrite16 a w s).inputs = s.inputs := by simp [memWrite16]
@[simp] theorem memWrite16_freeCount (a w : Word) : (memWrite16 a w s).freeCount = s.freeCount := by simp [memWrite16]
@[simp] theorem memWrite16_reg (a w : Word) (r : Reg) : (memWrite16 a w s).reg r = s.reg r := by simp [memWrite16]

/-! ## The stack -/

/-- The stack check in the words of Safety.lean (60_exceptions.md R243). -/
theorem stackFaults_iff (a : Word) : stackFaults s a = true ↔ StackFaultAt s a := by
  simp only [stackFaults, StackFaultAt, stackValid, inAddrRange, Bool.and_eq_true, Bool.not_eq_true', BitVec.le_def]
  refine and_congr_right fun _ => ?_
  rw [← Bool.not_eq_true, List.any_eq_true]
  simp

/-- The stack check depends on the configuration only. -/
theorem stackFaults_of_cfg {s t : State} (h : t.cfg = s.cfg) (a : Word) : stackFaults t a = stackFaults s a := by
  simp [stackFaults, stackValid, h]

@[simp] theorem stackStore_b (a : Word) (v : Byte) : (stackStore a v s).b = s.b := by unfold stackStore; split <;> simp
@[simp] theorem stackStore_c (a : Word) (v : Byte) : (stackStore a v s).c = s.c := by unfold stackStore; split <;> simp
@[simp] theorem stackStore_d (a : Word) (v : Byte) : (stackStore a v s).d = s.d := by unfold stackStore; split <;> simp
@[simp] theorem stackStore_e (a : Word) (v : Byte) : (stackStore a v s).e = s.e := by unfold stackStore; split <;> simp
@[simp] theorem stackStore_h (a : Word) (v : Byte) : (stackStore a v s).h = s.h := by unfold stackStore; split <;> simp
@[simp] theorem stackStore_l (a : Word) (v : Byte) : (stackStore a v s).l = s.l := by unfold stackStore; split <;> simp
@[simp] theorem stackStore_a (a : Word) (v : Byte) : (stackStore a v s).a = s.a := by unfold stackStore; split <;> simp
@[simp] theorem stackStore_f (a : Word) (v : Byte) : (stackStore a v s).f = s.f := by unfold stackStore; split <;> simp
@[simp] theorem stackStore_sp (a : Word) (v : Byte) : (stackStore a v s).sp = s.sp := by unfold stackStore; split <;> simp
@[simp] theorem stackStore_pc (a : Word) (v : Byte) : (stackStore a v s).pc = s.pc := by unfold stackStore; split <;> simp
@[simp] theorem stackStore_icount (a : Word) (v : Byte) : (stackStore a v s).icount = s.icount := by unfold stackStore; split <;> simp
@[simp] theorem stackStore_cfg (a : Word) (v : Byte) : (stackStore a v s).cfg = s.cfg := by unfold stackStore; split <;> simp
@[simp] theorem stackStore_shadow (a : Word) (v : Byte) : (stackStore a v s).shadow = s.shadow := by unfold stackStore; split <;> simp
@[simp] theorem stackStore_loggedPorts (a : Word) (v : Byte) : (stackStore a v s).loggedPorts = s.loggedPorts := by unfold stackStore; split <;> simp
@[simp] theorem stackStore_hookLog (a : Word) (v : Byte) : (stackStore a v s).hookLog = s.hookLog := by unfold stackStore; split <;> simp
@[simp] theorem stackStore_inputs (a : Word) (v : Byte) : (stackStore a v s).inputs = s.inputs := by unfold stackStore; split <;> simp
@[simp] theorem stackStore_freeCount (a : Word) (v : Byte) : (stackStore a v s).freeCount = s.freeCount := by unfold stackStore; split <;> simp
@[simp] theorem stackStore_reg (a : Word) (v : Byte) (r : Reg) : (stackStore a v s).reg r = s.reg r := by
  unfold stackStore; split <;> simp

/-- One byte of a push (43_family11_control_stack.md R190). -/
theorem stackStore_stored (a : Word) (v : Byte) : StackStored a v s (stackStore a v s) := by
  refine ⟨fun h => ?_, fun h => ?_⟩
  · rw [← stackFaults_iff] at h
    simp only [stackStore, h, if_true]
    exact ⟨rfl, raise_halts s _⟩
  · rw [← stackFaults_iff] at h
    simp only [stackStore, h]
    exact memWrite_stored s a v

/-- A push (R190). -/
theorem push16_pushed (w : Word) : Pushed w s (push16 w s) :=
  ⟨_, stackStore_stored (s.setSp (s.sp - 2)) (s.sp - 2) (lo8 w), stackStore_stored _ (s.sp - 2 + 1) (hi8 w)⟩

@[simp] theorem push16_b (w : Word) : (push16 w s).b = s.b := by simp [push16]
@[simp] theorem push16_c (w : Word) : (push16 w s).c = s.c := by simp [push16]
@[simp] theorem push16_d (w : Word) : (push16 w s).d = s.d := by simp [push16]
@[simp] theorem push16_e (w : Word) : (push16 w s).e = s.e := by simp [push16]
@[simp] theorem push16_h (w : Word) : (push16 w s).h = s.h := by simp [push16]
@[simp] theorem push16_l (w : Word) : (push16 w s).l = s.l := by simp [push16]
@[simp] theorem push16_a (w : Word) : (push16 w s).a = s.a := by simp [push16]
@[simp] theorem push16_f (w : Word) : (push16 w s).f = s.f := by simp [push16]
@[simp] theorem push16_pc (w : Word) : (push16 w s).pc = s.pc := by simp [push16]
@[simp] theorem push16_icount (w : Word) : (push16 w s).icount = s.icount := by simp [push16]
@[simp] theorem push16_cfg (w : Word) : (push16 w s).cfg = s.cfg := by simp [push16]
@[simp] theorem push16_shadow (w : Word) : (push16 w s).shadow = s.shadow := by simp [push16]
@[simp] theorem push16_loggedPorts (w : Word) : (push16 w s).loggedPorts = s.loggedPorts := by simp [push16]
@[simp] theorem push16_hookLog (w : Word) : (push16 w s).hookLog = s.hookLog := by simp [push16]
@[simp] theorem push16_inputs (w : Word) : (push16 w s).inputs = s.inputs := by simp [push16]
@[simp] theorem push16_freeCount (w : Word) : (push16 w s).freeCount = s.freeCount := by simp [push16]
@[simp] theorem push16_sp (w : Word) : (push16 w s).sp = s.sp - 2 := by simp [push16]
@[simp] theorem push16_reg (w : Word) (r : Reg) : (push16 w s).reg r = s.reg r := by simp [push16]

@[simp] theorem stackLoad_b (a : Word) : ((stackLoad a s).2).b = s.b := by unfold stackLoad; split <;> simp
@[simp] theorem stackLoad_c (a : Word) : ((stackLoad a s).2).c = s.c := by unfold stackLoad; split <;> simp
@[simp] theorem stackLoad_d (a : Word) : ((stackLoad a s).2).d = s.d := by unfold stackLoad; split <;> simp
@[simp] theorem stackLoad_e (a : Word) : ((stackLoad a s).2).e = s.e := by unfold stackLoad; split <;> simp
@[simp] theorem stackLoad_h (a : Word) : ((stackLoad a s).2).h = s.h := by unfold stackLoad; split <;> simp
@[simp] theorem stackLoad_l (a : Word) : ((stackLoad a s).2).l = s.l := by unfold stackLoad; split <;> simp
@[simp] theorem stackLoad_a (a : Word) : ((stackLoad a s).2).a = s.a := by unfold stackLoad; split <;> simp
@[simp] theorem stackLoad_f (a : Word) : ((stackLoad a s).2).f = s.f := by unfold stackLoad; split <;> simp
@[simp] theorem stackLoad_sp (a : Word) : ((stackLoad a s).2).sp = s.sp := by unfold stackLoad; split <;> simp
@[simp] theorem stackLoad_pc (a : Word) : ((stackLoad a s).2).pc = s.pc := by unfold stackLoad; split <;> simp
@[simp] theorem stackLoad_icount (a : Word) : ((stackLoad a s).2).icount = s.icount := by unfold stackLoad; split <;> simp
@[simp] theorem stackLoad_mem (a : Word) : ((stackLoad a s).2).mem = s.mem := by unfold stackLoad; split <;> simp
@[simp] theorem stackLoad_cfg (a : Word) : ((stackLoad a s).2).cfg = s.cfg := by unfold stackLoad; split <;> simp
@[simp] theorem stackLoad_shadow (a : Word) : ((stackLoad a s).2).shadow = s.shadow := by unfold stackLoad; split <;> simp
@[simp] theorem stackLoad_loggedPorts (a : Word) : ((stackLoad a s).2).loggedPorts = s.loggedPorts := by unfold stackLoad; split <;> simp
@[simp] theorem stackLoad_hookLog (a : Word) : ((stackLoad a s).2).hookLog = s.hookLog := by unfold stackLoad; split <;> simp
@[simp] theorem stackLoad_events (a : Word) : ((stackLoad a s).2).events = s.events := by unfold stackLoad; split <;> simp
@[simp] theorem stackLoad_inputs (a : Word) : ((stackLoad a s).2).inputs = s.inputs := by unfold stackLoad; split <;> simp
@[simp] theorem stackLoad_reg (a : Word) (r : Reg) : (stackLoad a s).2.reg r = s.reg r := by
  unfold stackLoad; split <;> simp
@[simp] theorem memRead_stackLoad (a x : Word) : memRead (stackLoad a s).2 x = memRead s x := by
  unfold stackLoad; split <;> simp

@[simp] theorem pop16_b  : ((pop16 s).2).b = s.b := by simp [pop16]
@[simp] theorem pop16_c  : ((pop16 s).2).c = s.c := by simp [pop16]
@[simp] theorem pop16_d  : ((pop16 s).2).d = s.d := by simp [pop16]
@[simp] theorem pop16_e  : ((pop16 s).2).e = s.e := by simp [pop16]
@[simp] theorem pop16_h  : ((pop16 s).2).h = s.h := by simp [pop16]
@[simp] theorem pop16_l  : ((pop16 s).2).l = s.l := by simp [pop16]
@[simp] theorem pop16_a  : ((pop16 s).2).a = s.a := by simp [pop16]
@[simp] theorem pop16_f  : ((pop16 s).2).f = s.f := by simp [pop16]
@[simp] theorem pop16_pc  : ((pop16 s).2).pc = s.pc := by simp [pop16]
@[simp] theorem pop16_icount  : ((pop16 s).2).icount = s.icount := by simp [pop16]
@[simp] theorem pop16_mem  : ((pop16 s).2).mem = s.mem := by simp [pop16]
@[simp] theorem pop16_cfg  : ((pop16 s).2).cfg = s.cfg := by simp [pop16]
@[simp] theorem pop16_shadow  : ((pop16 s).2).shadow = s.shadow := by simp [pop16]
@[simp] theorem pop16_loggedPorts  : ((pop16 s).2).loggedPorts = s.loggedPorts := by simp [pop16]
@[simp] theorem pop16_hookLog  : ((pop16 s).2).hookLog = s.hookLog := by simp [pop16]
@[simp] theorem pop16_events  : ((pop16 s).2).events = s.events := by simp [pop16]
@[simp] theorem pop16_inputs  : ((pop16 s).2).inputs = s.inputs := by simp [pop16]
@[simp] theorem pop16_sp : (pop16 s).2.sp = s.sp + 2 := by
  simp only [pop16, State.setSp_sp]
  rw [BitVec.add_assoc]; rfl
@[simp] theorem pop16_reg (r : Reg) : (pop16 s).2.reg r = s.reg r := by simp [pop16]
@[simp] theorem memRead_pop16 (x : Word) : memRead (pop16 s).2 x = memRead s x := by simp [pop16]

theorem stackLoad_ok (a : Word) (h : stackFaults s a = false) : stackLoad a s = (memRead s a, s) := by
  simp [stackLoad, h]

theorem stackLoad_fault (a : Word) (h : stackFaults s a = true) :
    stackLoad a s = (Config.freeByte s.freeCount, raise (.stackFault a) (s.setFreeCount (s.freeCount + 1))) := by
  simp [stackLoad, h]

/-- A second raise keeps the first cause (60_exceptions.md R241, R248). -/
theorem raise_raise (x y : HaltCause) (hx : x ≠ .none) : (raise y (raise x s)).haltCause = (raise x s).haltCause := by
  by_cases h : s.haltCause = .none <;> simp [raise, h, hx]

/-- A pop (43_family11_control_stack.md R191). -/
theorem pop16_popped : Popped (pop16 s).1 s (pop16 s).2 := by
  have h2 : s.sp + 1 + 1 = s.sp + 2 := by rw [BitVec.add_assoc]; rfl
  have hcfg : ∀ t : State, t.cfg = s.cfg → stackFaults t (s.sp + 1) = stackFaults s (s.sp + 1) :=
    fun t h => stackFaults_of_cfg h _
  simp only [Popped, ← stackFaults_iff, Bool.not_eq_true]
  cases hlo : stackFaults s s.sp
  · cases hhi : stackFaults s (s.sp + 1)
    · have e : pop16 s = (wordOf (memRead s (s.sp + 1)) (memRead s s.sp), s.setSp (s.sp + 2)) := by
        rw [pop16, stackLoad_ok s s.sp hlo, stackLoad_ok _ _ ((hcfg _ (by simp)).trans hhi), h2]; simp; rfl
      simp [e, State.setSp, SameHalt]
    · have e : pop16 s = (wordOf (Config.freeByte s.freeCount) (memRead s s.sp),
          raise (.stackFault (s.sp + 1)) ((s.setFreeCount (s.freeCount + 1)).setSp (s.sp + 2))) := by
        rw [pop16, stackLoad_ok s s.sp hlo, stackLoad_fault _ _ ((hcfg _ (by simp)).trans hhi), h2]; rfl
      rw [e]
      exact ⟨rfl, by simp, by simp, by simp, by simp, fun _ _ => raise_halts_of _ (by simp)⟩
  · cases hhi : stackFaults s (s.sp + 1)
    · have e : pop16 s = (wordOf (memRead s (s.sp + 1)) (Config.freeByte s.freeCount),
          raise (.stackFault s.sp) ((s.setFreeCount (s.freeCount + 1)).setSp (s.sp + 2))) := by
        rw [pop16, stackLoad_fault s s.sp hlo, stackLoad_ok _ _ ((hcfg _ (by simp)).trans hhi), h2]; rfl
      rw [e]
      exact ⟨rfl, by simp, by simp, by simp, fun _ => raise_halts_of _ (by simp), by simp⟩
    · have e : (pop16 s).2 = raise (.stackFault (s.sp + 1)) (((raise (.stackFault s.sp) s).setFreeCount (s.freeCount + 2)).setSp
          (s.sp + 2)) := by
        rw [pop16, stackLoad_fault s s.sp hlo, stackLoad_fault _ _ ((hcfg _ (by simp)).trans hhi), h2]; rfl
      have hc : (pop16 s).2.haltCause = (raise (.stackFault s.sp) s).haltCause := by
        rw [e]
        exact raise_raise ((s.setFreeCount (s.freeCount + 2)).setSp (s.sp + 2)) (.stackFault s.sp) _ (by simp)
      refine ⟨by rw [e]; rfl, by simp, by simp, by simp, fun _ => ⟨by rw [e]; rfl, hc⟩, by simp⟩

/-! ## The shadow stack, ports and the input oracle -/

@[simp] theorem pushFrame_b (fr : Frame) : (pushFrame fr s).b = s.b := by simp [pushFrame]
@[simp] theorem pushFrame_c (fr : Frame) : (pushFrame fr s).c = s.c := by simp [pushFrame]
@[simp] theorem pushFrame_d (fr : Frame) : (pushFrame fr s).d = s.d := by simp [pushFrame]
@[simp] theorem pushFrame_e (fr : Frame) : (pushFrame fr s).e = s.e := by simp [pushFrame]
@[simp] theorem pushFrame_h (fr : Frame) : (pushFrame fr s).h = s.h := by simp [pushFrame]
@[simp] theorem pushFrame_l (fr : Frame) : (pushFrame fr s).l = s.l := by simp [pushFrame]
@[simp] theorem pushFrame_a (fr : Frame) : (pushFrame fr s).a = s.a := by simp [pushFrame]
@[simp] theorem pushFrame_f (fr : Frame) : (pushFrame fr s).f = s.f := by simp [pushFrame]
@[simp] theorem pushFrame_sp (fr : Frame) : (pushFrame fr s).sp = s.sp := by simp [pushFrame]
@[simp] theorem pushFrame_pc (fr : Frame) : (pushFrame fr s).pc = s.pc := by simp [pushFrame]
@[simp] theorem pushFrame_icount (fr : Frame) : (pushFrame fr s).icount = s.icount := by simp [pushFrame]
@[simp] theorem pushFrame_halted (fr : Frame) : (pushFrame fr s).halted = s.halted := by simp [pushFrame]
@[simp] theorem pushFrame_haltCause (fr : Frame) : (pushFrame fr s).haltCause = s.haltCause := by simp [pushFrame]
@[simp] theorem pushFrame_mem (fr : Frame) : (pushFrame fr s).mem = s.mem := by simp [pushFrame]
@[simp] theorem pushFrame_cfg (fr : Frame) : (pushFrame fr s).cfg = s.cfg := by simp [pushFrame]
@[simp] theorem pushFrame_loggedPorts (fr : Frame) : (pushFrame fr s).loggedPorts = s.loggedPorts := by simp [pushFrame]
@[simp] theorem pushFrame_hookLog (fr : Frame) : (pushFrame fr s).hookLog = s.hookLog := by simp [pushFrame]
@[simp] theorem pushFrame_events (fr : Frame) : (pushFrame fr s).events = s.events := by simp [pushFrame]
@[simp] theorem pushFrame_inputs (fr : Frame) : (pushFrame fr s).inputs = s.inputs := by simp [pushFrame]
@[simp] theorem pushFrame_freeCount (fr : Frame) : (pushFrame fr s).freeCount = s.freeCount := by simp [pushFrame]
@[simp] theorem pushFrame_shadow (fr : Frame) : (pushFrame fr s).shadow = fr :: s.shadow := rfl
@[simp] theorem pushFrame_reg (fr : Frame) (r : Reg) : (pushFrame fr s).reg r = s.reg r := by simp [pushFrame]
@[simp] theorem popFrame_b (p : Word) : (popFrame p s).b = s.b := by
  unfold popFrame; split <;> (try split) <;> simp
@[simp] theorem popFrame_c (p : Word) : (popFrame p s).c = s.c := by
  unfold popFrame; split <;> (try split) <;> simp
@[simp] theorem popFrame_d (p : Word) : (popFrame p s).d = s.d := by
  unfold popFrame; split <;> (try split) <;> simp
@[simp] theorem popFrame_e (p : Word) : (popFrame p s).e = s.e := by
  unfold popFrame; split <;> (try split) <;> simp
@[simp] theorem popFrame_h (p : Word) : (popFrame p s).h = s.h := by
  unfold popFrame; split <;> (try split) <;> simp
@[simp] theorem popFrame_l (p : Word) : (popFrame p s).l = s.l := by
  unfold popFrame; split <;> (try split) <;> simp
@[simp] theorem popFrame_a (p : Word) : (popFrame p s).a = s.a := by
  unfold popFrame; split <;> (try split) <;> simp
@[simp] theorem popFrame_f (p : Word) : (popFrame p s).f = s.f := by
  unfold popFrame; split <;> (try split) <;> simp
@[simp] theorem popFrame_sp (p : Word) : (popFrame p s).sp = s.sp := by
  unfold popFrame; split <;> (try split) <;> simp
@[simp] theorem popFrame_pc (p : Word) : (popFrame p s).pc = s.pc := by
  unfold popFrame; split <;> (try split) <;> simp
@[simp] theorem popFrame_icount (p : Word) : (popFrame p s).icount = s.icount := by
  unfold popFrame; split <;> (try split) <;> simp
@[simp] theorem popFrame_halted (p : Word) : (popFrame p s).halted = s.halted := by
  unfold popFrame; split <;> (try split) <;> simp
@[simp] theorem popFrame_haltCause (p : Word) : (popFrame p s).haltCause = s.haltCause := by
  unfold popFrame; split <;> (try split) <;> simp
@[simp] theorem popFrame_mem (p : Word) : (popFrame p s).mem = s.mem := by
  unfold popFrame; split <;> (try split) <;> simp
@[simp] theorem popFrame_cfg (p : Word) : (popFrame p s).cfg = s.cfg := by
  unfold popFrame; split <;> (try split) <;> simp
@[simp] theorem popFrame_loggedPorts (p : Word) : (popFrame p s).loggedPorts = s.loggedPorts := by
  unfold popFrame; split <;> (try split) <;> simp
@[simp] theorem popFrame_hookLog (p : Word) : (popFrame p s).hookLog = s.hookLog := by
  unfold popFrame; split <;> (try split) <;> simp
@[simp] theorem popFrame_events (p : Word) : (popFrame p s).events = s.events := by
  unfold popFrame; split <;> (try split) <;> simp
@[simp] theorem popFrame_inputs (p : Word) : (popFrame p s).inputs = s.inputs := by
  unfold popFrame; split <;> (try split) <;> simp
@[simp] theorem popFrame_freeCount (p : Word) : (popFrame p s).freeCount = s.freeCount := by
  unfold popFrame; split <;> (try split) <;> simp
@[simp] theorem popFrame_reg (p : Word) (r : Reg) : (popFrame p s).reg r = s.reg r := by
  unfold popFrame; split <;> (try split) <;> simp

@[simp] theorem nextAnswer_b  : ((nextAnswer s).2).b = s.b := by unfold nextAnswer; split <;> simp
@[simp] theorem nextAnswer_c  : ((nextAnswer s).2).c = s.c := by unfold nextAnswer; split <;> simp
@[simp] theorem nextAnswer_d  : ((nextAnswer s).2).d = s.d := by unfold nextAnswer; split <;> simp
@[simp] theorem nextAnswer_e  : ((nextAnswer s).2).e = s.e := by unfold nextAnswer; split <;> simp
@[simp] theorem nextAnswer_h  : ((nextAnswer s).2).h = s.h := by unfold nextAnswer; split <;> simp
@[simp] theorem nextAnswer_l  : ((nextAnswer s).2).l = s.l := by unfold nextAnswer; split <;> simp
@[simp] theorem nextAnswer_a  : ((nextAnswer s).2).a = s.a := by unfold nextAnswer; split <;> simp
@[simp] theorem nextAnswer_f  : ((nextAnswer s).2).f = s.f := by unfold nextAnswer; split <;> simp
@[simp] theorem nextAnswer_sp  : ((nextAnswer s).2).sp = s.sp := by unfold nextAnswer; split <;> simp
@[simp] theorem nextAnswer_pc  : ((nextAnswer s).2).pc = s.pc := by unfold nextAnswer; split <;> simp
@[simp] theorem nextAnswer_icount  : ((nextAnswer s).2).icount = s.icount := by unfold nextAnswer; split <;> simp
@[simp] theorem nextAnswer_halted  : ((nextAnswer s).2).halted = s.halted := by unfold nextAnswer; split <;> simp
@[simp] theorem nextAnswer_haltCause  : ((nextAnswer s).2).haltCause = s.haltCause := by unfold nextAnswer; split <;> simp
@[simp] theorem nextAnswer_mem  : ((nextAnswer s).2).mem = s.mem := by unfold nextAnswer; split <;> simp
@[simp] theorem nextAnswer_cfg  : ((nextAnswer s).2).cfg = s.cfg := by unfold nextAnswer; split <;> simp
@[simp] theorem nextAnswer_shadow  : ((nextAnswer s).2).shadow = s.shadow := by unfold nextAnswer; split <;> simp
@[simp] theorem nextAnswer_loggedPorts  : ((nextAnswer s).2).loggedPorts = s.loggedPorts := by unfold nextAnswer; split <;> simp
@[simp] theorem nextAnswer_hookLog  : ((nextAnswer s).2).hookLog = s.hookLog := by unfold nextAnswer; split <;> simp
@[simp] theorem nextAnswer_events  : ((nextAnswer s).2).events = s.events := by unfold nextAnswer; split <;> simp
@[simp] theorem nextAnswer_reg (r : Reg) : (nextAnswer s).2.reg r = s.reg r := by unfold nextAnswer; split <;> simp

@[simp] theorem portIn_b (p : Byte) : ((portIn p s).2).b = s.b := by unfold portIn; split <;> simp
@[simp] theorem portIn_c (p : Byte) : ((portIn p s).2).c = s.c := by unfold portIn; split <;> simp
@[simp] theorem portIn_d (p : Byte) : ((portIn p s).2).d = s.d := by unfold portIn; split <;> simp
@[simp] theorem portIn_e (p : Byte) : ((portIn p s).2).e = s.e := by unfold portIn; split <;> simp
@[simp] theorem portIn_h (p : Byte) : ((portIn p s).2).h = s.h := by unfold portIn; split <;> simp
@[simp] theorem portIn_l (p : Byte) : ((portIn p s).2).l = s.l := by unfold portIn; split <;> simp
@[simp] theorem portIn_a (p : Byte) : ((portIn p s).2).a = s.a := by unfold portIn; split <;> simp
@[simp] theorem portIn_f (p : Byte) : ((portIn p s).2).f = s.f := by unfold portIn; split <;> simp
@[simp] theorem portIn_sp (p : Byte) : ((portIn p s).2).sp = s.sp := by unfold portIn; split <;> simp
@[simp] theorem portIn_pc (p : Byte) : ((portIn p s).2).pc = s.pc := by unfold portIn; split <;> simp
@[simp] theorem portIn_icount (p : Byte) : ((portIn p s).2).icount = s.icount := by unfold portIn; split <;> simp
@[simp] theorem portIn_halted (p : Byte) : ((portIn p s).2).halted = s.halted := by unfold portIn; split <;> simp
@[simp] theorem portIn_haltCause (p : Byte) : ((portIn p s).2).haltCause = s.haltCause := by unfold portIn; split <;> simp
@[simp] theorem portIn_mem (p : Byte) : ((portIn p s).2).mem = s.mem := by unfold portIn; split <;> simp
@[simp] theorem portIn_cfg (p : Byte) : ((portIn p s).2).cfg = s.cfg := by unfold portIn; split <;> simp
@[simp] theorem portIn_shadow (p : Byte) : ((portIn p s).2).shadow = s.shadow := by unfold portIn; split <;> simp
@[simp] theorem portIn_loggedPorts (p : Byte) : ((portIn p s).2).loggedPorts = s.loggedPorts := by unfold portIn; split <;> simp
@[simp] theorem portIn_hookLog (p : Byte) : ((portIn p s).2).hookLog = s.hookLog := by unfold portIn; split <;> simp
@[simp] theorem portIn_reg (p : Byte) (r : Reg) : (portIn p s).2.reg r = s.reg r := by unfold portIn; split <;> simp

@[simp] theorem logPort_b (p : Byte) : (logPort p s).b = s.b := by unfold logPort; split <;> simp
@[simp] theorem logPort_c (p : Byte) : (logPort p s).c = s.c := by unfold logPort; split <;> simp
@[simp] theorem logPort_d (p : Byte) : (logPort p s).d = s.d := by unfold logPort; split <;> simp
@[simp] theorem logPort_e (p : Byte) : (logPort p s).e = s.e := by unfold logPort; split <;> simp
@[simp] theorem logPort_h (p : Byte) : (logPort p s).h = s.h := by unfold logPort; split <;> simp
@[simp] theorem logPort_l (p : Byte) : (logPort p s).l = s.l := by unfold logPort; split <;> simp
@[simp] theorem logPort_a (p : Byte) : (logPort p s).a = s.a := by unfold logPort; split <;> simp
@[simp] theorem logPort_f (p : Byte) : (logPort p s).f = s.f := by unfold logPort; split <;> simp
@[simp] theorem logPort_sp (p : Byte) : (logPort p s).sp = s.sp := by unfold logPort; split <;> simp
@[simp] theorem logPort_pc (p : Byte) : (logPort p s).pc = s.pc := by unfold logPort; split <;> simp
@[simp] theorem logPort_icount (p : Byte) : (logPort p s).icount = s.icount := by unfold logPort; split <;> simp
@[simp] theorem logPort_halted (p : Byte) : (logPort p s).halted = s.halted := by unfold logPort; split <;> simp
@[simp] theorem logPort_haltCause (p : Byte) : (logPort p s).haltCause = s.haltCause := by unfold logPort; split <;> simp
@[simp] theorem logPort_mem (p : Byte) : (logPort p s).mem = s.mem := by unfold logPort; split <;> simp
@[simp] theorem logPort_cfg (p : Byte) : (logPort p s).cfg = s.cfg := by unfold logPort; split <;> simp
@[simp] theorem logPort_shadow (p : Byte) : (logPort p s).shadow = s.shadow := by unfold logPort; split <;> simp
@[simp] theorem logPort_hookLog (p : Byte) : (logPort p s).hookLog = s.hookLog := by unfold logPort; split <;> simp
@[simp] theorem logPort_events (p : Byte) : (logPort p s).events = s.events := by unfold logPort; split <;> simp
@[simp] theorem logPort_inputs (p : Byte) : (logPort p s).inputs = s.inputs := by unfold logPort; split <;> simp
@[simp] theorem logPort_freeCount (p : Byte) : (logPort p s).freeCount = s.freeCount := by unfold logPort; split <;> simp
@[simp] theorem logPort_reg (p : Byte) (r : Reg) : (logPort p s).reg r = s.reg r := by unfold logPort; split <;> simp

@[simp] theorem portOut_b (p v : Byte) : (portOut p v s).b = s.b := by unfold portOut; split <;> simp
@[simp] theorem portOut_c (p v : Byte) : (portOut p v s).c = s.c := by unfold portOut; split <;> simp
@[simp] theorem portOut_d (p v : Byte) : (portOut p v s).d = s.d := by unfold portOut; split <;> simp
@[simp] theorem portOut_e (p v : Byte) : (portOut p v s).e = s.e := by unfold portOut; split <;> simp
@[simp] theorem portOut_h (p v : Byte) : (portOut p v s).h = s.h := by unfold portOut; split <;> simp
@[simp] theorem portOut_l (p v : Byte) : (portOut p v s).l = s.l := by unfold portOut; split <;> simp
@[simp] theorem portOut_a (p v : Byte) : (portOut p v s).a = s.a := by unfold portOut; split <;> simp
@[simp] theorem portOut_f (p v : Byte) : (portOut p v s).f = s.f := by unfold portOut; split <;> simp
@[simp] theorem portOut_sp (p v : Byte) : (portOut p v s).sp = s.sp := by unfold portOut; split <;> simp
@[simp] theorem portOut_pc (p v : Byte) : (portOut p v s).pc = s.pc := by unfold portOut; split <;> simp
@[simp] theorem portOut_icount (p v : Byte) : (portOut p v s).icount = s.icount := by unfold portOut; split <;> simp
@[simp] theorem portOut_halted (p v : Byte) : (portOut p v s).halted = s.halted := by unfold portOut; split <;> simp
@[simp] theorem portOut_haltCause (p v : Byte) : (portOut p v s).haltCause = s.haltCause := by unfold portOut; split <;> simp
@[simp] theorem portOut_mem (p v : Byte) : (portOut p v s).mem = s.mem := by unfold portOut; split <;> simp
@[simp] theorem portOut_cfg (p v : Byte) : (portOut p v s).cfg = s.cfg := by unfold portOut; split <;> simp
@[simp] theorem portOut_shadow (p v : Byte) : (portOut p v s).shadow = s.shadow := by unfold portOut; split <;> simp
@[simp] theorem portOut_hookLog (p v : Byte) : (portOut p v s).hookLog = s.hookLog := by unfold portOut; split <;> simp
@[simp] theorem portOut_inputs (p v : Byte) : (portOut p v s).inputs = s.inputs := by unfold portOut; split <;> simp
@[simp] theorem portOut_freeCount (p v : Byte) : (portOut p v s).freeCount = s.freeCount := by unfold portOut; split <;> simp
@[simp] theorem portOut_reg (p v : Byte) (r : Reg) : (portOut p v s).reg r = s.reg r := by unfold portOut; split <;> simp

end Sys2Proof.Machine
end

