-- ==== Sys2Proof/Laws/Operands.lean ====
section
/-! SUPPORT. What the operand forms, the ALU paths and the transfers do, once: the fields each leaves alone (one simp lemma each),
and its effect in the words of Safety.lean. -/

namespace Sys2Proof.Machine

variable (s : State)

/-! ## Operands -/

@[simp] theorem setOpnd_f (o : Sel) (v : Byte) : (setOpnd o v s).f = s.f := by cases o <;> simp [setOpnd]
@[simp] theorem setOpnd_sp (o : Sel) (v : Byte) : (setOpnd o v s).sp = s.sp := by cases o <;> simp [setOpnd]
@[simp] theorem setOpnd_pc (o : Sel) (v : Byte) : (setOpnd o v s).pc = s.pc := by cases o <;> simp [setOpnd]
@[simp] theorem setOpnd_icount (o : Sel) (v : Byte) : (setOpnd o v s).icount = s.icount := by cases o <;> simp [setOpnd]
@[simp] theorem setOpnd_cfg (o : Sel) (v : Byte) : (setOpnd o v s).cfg = s.cfg := by cases o <;> simp [setOpnd]
@[simp] theorem setOpnd_shadow (o : Sel) (v : Byte) : (setOpnd o v s).shadow = s.shadow := by cases o <;> simp [setOpnd]
@[simp] theorem setOpnd_loggedPorts (o : Sel) (v : Byte) : (setOpnd o v s).loggedPorts = s.loggedPorts := by
  cases o <;> simp [setOpnd]
@[simp] theorem setOpnd_hookLog (o : Sel) (v : Byte) : (setOpnd o v s).hookLog = s.hookLog := by cases o <;> simp [setOpnd]
@[simp] theorem setOpnd_inputs (o : Sel) (v : Byte) : (setOpnd o v s).inputs = s.inputs := by cases o <;> simp [setOpnd]
@[simp] theorem setOpnd_freeCount (o : Sel) (v : Byte) : (setOpnd o v s).freeCount = s.freeCount := by
  cases o <;> simp [setOpnd]
@[simp] theorem setOpnd_reg_eq (r : Reg) (v : Byte) : setOpnd (.reg r) v s = s.setReg r v := rfl
@[simp] theorem setOpnd_m_eq (v : Byte) : setOpnd .m v s = memWrite s.hl v s := rfl
@[simp] theorem opnd_reg_eq (r : Reg) : opnd (.reg r) s = s.reg r := rfl
@[simp] theorem opnd_m_eq : opnd .m s = memRead s s.hl := rfl
@[simp] theorem opnd_setF (o : Sel) (v : Byte) : opnd o (s.setF v) = opnd o s := by cases o <;> simp [State.hl]

@[simp] theorem setRp_a (p : Pair) (w : Word) : (setRp p w s).a = s.a := by cases p <;> simp [setRp]
@[simp] theorem setRp_f (p : Pair) (w : Word) : (setRp p w s).f = s.f := by cases p <;> simp [setRp]
@[simp] theorem setRp_pc (p : Pair) (w : Word) : (setRp p w s).pc = s.pc := by cases p <;> simp [setRp]
@[simp] theorem setRp_icount (p : Pair) (w : Word) : (setRp p w s).icount = s.icount := by cases p <;> simp [setRp]
@[simp] theorem setRp_halted (p : Pair) (w : Word) : (setRp p w s).halted = s.halted := by cases p <;> simp [setRp]
@[simp] theorem setRp_haltCause (p : Pair) (w : Word) : (setRp p w s).haltCause = s.haltCause := by cases p <;> simp [setRp]
@[simp] theorem setRp_mem (p : Pair) (w : Word) : (setRp p w s).mem = s.mem := by cases p <;> simp [setRp]
@[simp] theorem setRp_cfg (p : Pair) (w : Word) : (setRp p w s).cfg = s.cfg := by cases p <;> simp [setRp]
@[simp] theorem setRp_shadow (p : Pair) (w : Word) : (setRp p w s).shadow = s.shadow := by cases p <;> simp [setRp]
@[simp] theorem setRp_loggedPorts (p : Pair) (w : Word) : (setRp p w s).loggedPorts = s.loggedPorts := by
  cases p <;> simp [setRp]
@[simp] theorem setRp_hookLog (p : Pair) (w : Word) : (setRp p w s).hookLog = s.hookLog := by cases p <;> simp [setRp]
@[simp] theorem setRp_events (p : Pair) (w : Word) : (setRp p w s).events = s.events := by cases p <;> simp [setRp]
@[simp] theorem setRp_inputs (p : Pair) (w : Word) : (setRp p w s).inputs = s.inputs := by cases p <;> simp [setRp]
@[simp] theorem setRp_freeCount (p : Pair) (w : Word) : (setRp p w s).freeCount = s.freeCount := by cases p <;> simp [setRp]
@[simp] theorem memRead_setRp (p : Pair) (w a : Word) : memRead (setRp p w s) a = memRead s a := memRead_of_mem (by simp) a

/-- A pair reads what was last written to it. -/
@[simp] theorem rp_setRp (p : Pair) (w : Word) : rp p (setRp p w s) = w := by cases p <;> simp [rp, setRp]
@[simp] theorem rp_setF (p : Pair) (v : Byte) : rp p (s.setF v) = rp p s := by
  cases p <;> simp [rp, State.bc, State.de, State.hl]

/-- Writing a pair writes its two registers, or SP, and nothing else. -/
theorem setRp_pairSet (p : Pair) (w : Word) : PairSet p w s (setRp p w s) :=
  ⟨by simp, by intro r hr; cases p <;> cases r <;> simp_all [setRp, pairRegs], by cases p <;> simp [setRp],
    by simp, by simp [SameHalt], by intro x; simp, by simp [SameRest]⟩

/-- An 8-bit store through a selector: the register, or a store to HL. -/
theorem setOpnd_m_stored (v : Byte) : StoredByte (wordOf s.h s.l) v s (setOpnd .m v s) := memWrite_stored s s.hl v

@[simp] theorem setPsw_b (w : Word) : (setPsw w s).b = s.b := by unfold setPsw; split <;> simp
@[simp] theorem setPsw_c (w : Word) : (setPsw w s).c = s.c := by unfold setPsw; split <;> simp
@[simp] theorem setPsw_d (w : Word) : (setPsw w s).d = s.d := by unfold setPsw; split <;> simp
@[simp] theorem setPsw_e (w : Word) : (setPsw w s).e = s.e := by unfold setPsw; split <;> simp
@[simp] theorem setPsw_h (w : Word) : (setPsw w s).h = s.h := by unfold setPsw; split <;> simp
@[simp] theorem setPsw_l (w : Word) : (setPsw w s).l = s.l := by unfold setPsw; split <;> simp
@[simp] theorem setPsw_sp (w : Word) : (setPsw w s).sp = s.sp := by unfold setPsw; split <;> simp
@[simp] theorem setPsw_pc (w : Word) : (setPsw w s).pc = s.pc := by unfold setPsw; split <;> simp
@[simp] theorem setPsw_icount (w : Word) : (setPsw w s).icount = s.icount := by unfold setPsw; split <;> simp
@[simp] theorem setPsw_halted (w : Word) : (setPsw w s).halted = s.halted := by unfold setPsw; split <;> simp
@[simp] theorem setPsw_haltCause (w : Word) : (setPsw w s).haltCause = s.haltCause := by unfold setPsw; split <;> simp
@[simp] theorem setPsw_mem (w : Word) : (setPsw w s).mem = s.mem := by unfold setPsw; split <;> simp
@[simp] theorem setPsw_cfg (w : Word) : (setPsw w s).cfg = s.cfg := by unfold setPsw; split <;> simp
@[simp] theorem setPsw_shadow (w : Word) : (setPsw w s).shadow = s.shadow := by unfold setPsw; split <;> simp
@[simp] theorem setPsw_loggedPorts (w : Word) : (setPsw w s).loggedPorts = s.loggedPorts := by unfold setPsw; split <;> simp
@[simp] theorem setPsw_hookLog (w : Word) : (setPsw w s).hookLog = s.hookLog := by unfold setPsw; split <;> simp
@[simp] theorem setPsw_events (w : Word) : (setPsw w s).events = s.events := by unfold setPsw; split <;> simp
@[simp] theorem setPsw_inputs (w : Word) : (setPsw w s).inputs = s.inputs := by unfold setPsw; split <;> simp
@[simp] theorem setPsw_freeCount (w : Word) : (setPsw w s).freeCount = s.freeCount := by unfold setPsw; split <;> simp

/-! ## The ALU -/

@[simp] theorem aluAdd_b (v : Byte) (cin : Bool) : (aluAdd v cin s).b = s.b := by simp [aluAdd]
@[simp] theorem aluAdd_c (v : Byte) (cin : Bool) : (aluAdd v cin s).c = s.c := by simp [aluAdd]
@[simp] theorem aluAdd_d (v : Byte) (cin : Bool) : (aluAdd v cin s).d = s.d := by simp [aluAdd]
@[simp] theorem aluAdd_e (v : Byte) (cin : Bool) : (aluAdd v cin s).e = s.e := by simp [aluAdd]
@[simp] theorem aluAdd_h (v : Byte) (cin : Bool) : (aluAdd v cin s).h = s.h := by simp [aluAdd]
@[simp] theorem aluAdd_l (v : Byte) (cin : Bool) : (aluAdd v cin s).l = s.l := by simp [aluAdd]
@[simp] theorem aluAdd_sp (v : Byte) (cin : Bool) : (aluAdd v cin s).sp = s.sp := by simp [aluAdd]
@[simp] theorem aluAdd_pc (v : Byte) (cin : Bool) : (aluAdd v cin s).pc = s.pc := by simp [aluAdd]
@[simp] theorem aluAdd_icount (v : Byte) (cin : Bool) : (aluAdd v cin s).icount = s.icount := by simp [aluAdd]
@[simp] theorem aluAdd_halted (v : Byte) (cin : Bool) : (aluAdd v cin s).halted = s.halted := by simp [aluAdd]
@[simp] theorem aluAdd_haltCause (v : Byte) (cin : Bool) : (aluAdd v cin s).haltCause = s.haltCause := by simp [aluAdd]
@[simp] theorem aluAdd_mem (v : Byte) (cin : Bool) : (aluAdd v cin s).mem = s.mem := by simp [aluAdd]
@[simp] theorem aluAdd_cfg (v : Byte) (cin : Bool) : (aluAdd v cin s).cfg = s.cfg := by simp [aluAdd]
@[simp] theorem aluAdd_shadow (v : Byte) (cin : Bool) : (aluAdd v cin s).shadow = s.shadow := by simp [aluAdd]
@[simp] theorem aluAdd_loggedPorts (v : Byte) (cin : Bool) : (aluAdd v cin s).loggedPorts = s.loggedPorts := by simp [aluAdd]
@[simp] theorem aluAdd_hookLog (v : Byte) (cin : Bool) : (aluAdd v cin s).hookLog = s.hookLog := by simp [aluAdd]
@[simp] theorem aluAdd_events (v : Byte) (cin : Bool) : (aluAdd v cin s).events = s.events := by simp [aluAdd]
@[simp] theorem aluAdd_inputs (v : Byte) (cin : Bool) : (aluAdd v cin s).inputs = s.inputs := by simp [aluAdd]
@[simp] theorem aluAdd_freeCount (v : Byte) (cin : Bool) : (aluAdd v cin s).freeCount = s.freeCount := by simp [aluAdd]

@[simp] theorem aluCompare_b (v : Byte) (cin : Bool) : (aluCompare v cin s).b = s.b := by simp [aluCompare]
@[simp] theorem aluCompare_c (v : Byte) (cin : Bool) : (aluCompare v cin s).c = s.c := by simp [aluCompare]
@[simp] theorem aluCompare_d (v : Byte) (cin : Bool) : (aluCompare v cin s).d = s.d := by simp [aluCompare]
@[simp] theorem aluCompare_e (v : Byte) (cin : Bool) : (aluCompare v cin s).e = s.e := by simp [aluCompare]
@[simp] theorem aluCompare_h (v : Byte) (cin : Bool) : (aluCompare v cin s).h = s.h := by simp [aluCompare]
@[simp] theorem aluCompare_l (v : Byte) (cin : Bool) : (aluCompare v cin s).l = s.l := by simp [aluCompare]
@[simp] theorem aluCompare_a (v : Byte) (cin : Bool) : (aluCompare v cin s).a = s.a := by simp [aluCompare]
@[simp] theorem aluCompare_sp (v : Byte) (cin : Bool) : (aluCompare v cin s).sp = s.sp := by simp [aluCompare]
@[simp] theorem aluCompare_pc (v : Byte) (cin : Bool) : (aluCompare v cin s).pc = s.pc := by simp [aluCompare]
@[simp] theorem aluCompare_icount (v : Byte) (cin : Bool) : (aluCompare v cin s).icount = s.icount := by simp [aluCompare]
@[simp] theorem aluCompare_halted (v : Byte) (cin : Bool) : (aluCompare v cin s).halted = s.halted := by simp [aluCompare]
@[simp] theorem aluCompare_haltCause (v : Byte) (cin : Bool) : (aluCompare v cin s).haltCause = s.haltCause := by
  simp [aluCompare]
@[simp] theorem aluCompare_mem (v : Byte) (cin : Bool) : (aluCompare v cin s).mem = s.mem := by simp [aluCompare]
@[simp] theorem aluCompare_cfg (v : Byte) (cin : Bool) : (aluCompare v cin s).cfg = s.cfg := by simp [aluCompare]
@[simp] theorem aluCompare_shadow (v : Byte) (cin : Bool) : (aluCompare v cin s).shadow = s.shadow := by simp [aluCompare]
@[simp] theorem aluCompare_loggedPorts (v : Byte) (cin : Bool) : (aluCompare v cin s).loggedPorts = s.loggedPorts := by
  simp [aluCompare]
@[simp] theorem aluCompare_hookLog (v : Byte) (cin : Bool) : (aluCompare v cin s).hookLog = s.hookLog := by simp [aluCompare]
@[simp] theorem aluCompare_events (v : Byte) (cin : Bool) : (aluCompare v cin s).events = s.events := by simp [aluCompare]
@[simp] theorem aluCompare_inputs (v : Byte) (cin : Bool) : (aluCompare v cin s).inputs = s.inputs := by simp [aluCompare]
@[simp] theorem aluCompare_freeCount (v : Byte) (cin : Bool) : (aluCompare v cin s).freeCount = s.freeCount := by
  simp [aluCompare]
@[simp] theorem aluCompare_reg (v : Byte) (cin : Bool) (r : Reg) : (aluCompare v cin s).reg r = s.reg r := by simp [aluCompare]

@[simp] theorem aluSub_b (v : Byte) (cin : Bool) : (aluSub v cin s).b = s.b := by simp [aluSub]
@[simp] theorem aluSub_c (v : Byte) (cin : Bool) : (aluSub v cin s).c = s.c := by simp [aluSub]
@[simp] theorem aluSub_d (v : Byte) (cin : Bool) : (aluSub v cin s).d = s.d := by simp [aluSub]
@[simp] theorem aluSub_e (v : Byte) (cin : Bool) : (aluSub v cin s).e = s.e := by simp [aluSub]
@[simp] theorem aluSub_h (v : Byte) (cin : Bool) : (aluSub v cin s).h = s.h := by simp [aluSub]
@[simp] theorem aluSub_l (v : Byte) (cin : Bool) : (aluSub v cin s).l = s.l := by simp [aluSub]
@[simp] theorem aluSub_sp (v : Byte) (cin : Bool) : (aluSub v cin s).sp = s.sp := by simp [aluSub]
@[simp] theorem aluSub_pc (v : Byte) (cin : Bool) : (aluSub v cin s).pc = s.pc := by simp [aluSub]
@[simp] theorem aluSub_icount (v : Byte) (cin : Bool) : (aluSub v cin s).icount = s.icount := by simp [aluSub]
@[simp] theorem aluSub_halted (v : Byte) (cin : Bool) : (aluSub v cin s).halted = s.halted := by simp [aluSub]
@[simp] theorem aluSub_haltCause (v : Byte) (cin : Bool) : (aluSub v cin s).haltCause = s.haltCause := by simp [aluSub]
@[simp] theorem aluSub_mem (v : Byte) (cin : Bool) : (aluSub v cin s).mem = s.mem := by simp [aluSub]
@[simp] theorem aluSub_cfg (v : Byte) (cin : Bool) : (aluSub v cin s).cfg = s.cfg := by simp [aluSub]
@[simp] theorem aluSub_shadow (v : Byte) (cin : Bool) : (aluSub v cin s).shadow = s.shadow := by simp [aluSub]
@[simp] theorem aluSub_loggedPorts (v : Byte) (cin : Bool) : (aluSub v cin s).loggedPorts = s.loggedPorts := by simp [aluSub]
@[simp] theorem aluSub_hookLog (v : Byte) (cin : Bool) : (aluSub v cin s).hookLog = s.hookLog := by simp [aluSub]
@[simp] theorem aluSub_events (v : Byte) (cin : Bool) : (aluSub v cin s).events = s.events := by simp [aluSub]
@[simp] theorem aluSub_inputs (v : Byte) (cin : Bool) : (aluSub v cin s).inputs = s.inputs := by simp [aluSub]
@[simp] theorem aluSub_freeCount (v : Byte) (cin : Bool) : (aluSub v cin s).freeCount = s.freeCount := by simp [aluSub]

@[simp] theorem aluMost_b (r : Byte) : (aluMost r s).b = s.b := by simp [aluMost]
@[simp] theorem aluMost_c (r : Byte) : (aluMost r s).c = s.c := by simp [aluMost]
@[simp] theorem aluMost_d (r : Byte) : (aluMost r s).d = s.d := by simp [aluMost]
@[simp] theorem aluMost_e (r : Byte) : (aluMost r s).e = s.e := by simp [aluMost]
@[simp] theorem aluMost_h (r : Byte) : (aluMost r s).h = s.h := by simp [aluMost]
@[simp] theorem aluMost_l (r : Byte) : (aluMost r s).l = s.l := by simp [aluMost]
@[simp] theorem aluMost_sp (r : Byte) : (aluMost r s).sp = s.sp := by simp [aluMost]
@[simp] theorem aluMost_pc (r : Byte) : (aluMost r s).pc = s.pc := by simp [aluMost]
@[simp] theorem aluMost_icount (r : Byte) : (aluMost r s).icount = s.icount := by simp [aluMost]
@[simp] theorem aluMost_halted (r : Byte) : (aluMost r s).halted = s.halted := by simp [aluMost]
@[simp] theorem aluMost_haltCause (r : Byte) : (aluMost r s).haltCause = s.haltCause := by simp [aluMost]
@[simp] theorem aluMost_mem (r : Byte) : (aluMost r s).mem = s.mem := by simp [aluMost]
@[simp] theorem aluMost_cfg (r : Byte) : (aluMost r s).cfg = s.cfg := by simp [aluMost]
@[simp] theorem aluMost_shadow (r : Byte) : (aluMost r s).shadow = s.shadow := by simp [aluMost]
@[simp] theorem aluMost_loggedPorts (r : Byte) : (aluMost r s).loggedPorts = s.loggedPorts := by simp [aluMost]
@[simp] theorem aluMost_hookLog (r : Byte) : (aluMost r s).hookLog = s.hookLog := by simp [aluMost]
@[simp] theorem aluMost_events (r : Byte) : (aluMost r s).events = s.events := by simp [aluMost]
@[simp] theorem aluMost_inputs (r : Byte) : (aluMost r s).inputs = s.inputs := by simp [aluMost]
@[simp] theorem aluMost_freeCount (r : Byte) : (aluMost r s).freeCount = s.freeCount := by simp [aluMost]

@[simp] theorem aluXor_b (v : Byte) : (aluXor v s).b = s.b := by simp [aluXor]
@[simp] theorem aluXor_c (v : Byte) : (aluXor v s).c = s.c := by simp [aluXor]
@[simp] theorem aluXor_d (v : Byte) : (aluXor v s).d = s.d := by simp [aluXor]
@[simp] theorem aluXor_e (v : Byte) : (aluXor v s).e = s.e := by simp [aluXor]
@[simp] theorem aluXor_h (v : Byte) : (aluXor v s).h = s.h := by simp [aluXor]
@[simp] theorem aluXor_l (v : Byte) : (aluXor v s).l = s.l := by simp [aluXor]
@[simp] theorem aluXor_sp (v : Byte) : (aluXor v s).sp = s.sp := by simp [aluXor]
@[simp] theorem aluXor_pc (v : Byte) : (aluXor v s).pc = s.pc := by simp [aluXor]
@[simp] theorem aluXor_icount (v : Byte) : (aluXor v s).icount = s.icount := by simp [aluXor]
@[simp] theorem aluXor_halted (v : Byte) : (aluXor v s).halted = s.halted := by simp [aluXor]
@[simp] theorem aluXor_haltCause (v : Byte) : (aluXor v s).haltCause = s.haltCause := by simp [aluXor]
@[simp] theorem aluXor_mem (v : Byte) : (aluXor v s).mem = s.mem := by simp [aluXor]
@[simp] theorem aluXor_cfg (v : Byte) : (aluXor v s).cfg = s.cfg := by simp [aluXor]
@[simp] theorem aluXor_shadow (v : Byte) : (aluXor v s).shadow = s.shadow := by simp [aluXor]
@[simp] theorem aluXor_loggedPorts (v : Byte) : (aluXor v s).loggedPorts = s.loggedPorts := by simp [aluXor]
@[simp] theorem aluXor_hookLog (v : Byte) : (aluXor v s).hookLog = s.hookLog := by simp [aluXor]
@[simp] theorem aluXor_events (v : Byte) : (aluXor v s).events = s.events := by simp [aluXor]
@[simp] theorem aluXor_inputs (v : Byte) : (aluXor v s).inputs = s.inputs := by simp [aluXor]
@[simp] theorem aluXor_freeCount (v : Byte) : (aluXor v s).freeCount = s.freeCount := by simp [aluXor]

@[simp] theorem setAC_b (v : Byte) (carry : Bool) : (setAC v carry s).b = s.b := by simp [setAC]
@[simp] theorem setAC_c (v : Byte) (carry : Bool) : (setAC v carry s).c = s.c := by simp [setAC]
@[simp] theorem setAC_d (v : Byte) (carry : Bool) : (setAC v carry s).d = s.d := by simp [setAC]
@[simp] theorem setAC_e (v : Byte) (carry : Bool) : (setAC v carry s).e = s.e := by simp [setAC]
@[simp] theorem setAC_h (v : Byte) (carry : Bool) : (setAC v carry s).h = s.h := by simp [setAC]
@[simp] theorem setAC_l (v : Byte) (carry : Bool) : (setAC v carry s).l = s.l := by simp [setAC]
@[simp] theorem setAC_sp (v : Byte) (carry : Bool) : (setAC v carry s).sp = s.sp := by simp [setAC]
@[simp] theorem setAC_pc (v : Byte) (carry : Bool) : (setAC v carry s).pc = s.pc := by simp [setAC]
@[simp] theorem setAC_icount (v : Byte) (carry : Bool) : (setAC v carry s).icount = s.icount := by simp [setAC]
@[simp] theorem setAC_halted (v : Byte) (carry : Bool) : (setAC v carry s).halted = s.halted := by simp [setAC]
@[simp] theorem setAC_haltCause (v : Byte) (carry : Bool) : (setAC v carry s).haltCause = s.haltCause := by simp [setAC]
@[simp] theorem setAC_mem (v : Byte) (carry : Bool) : (setAC v carry s).mem = s.mem := by simp [setAC]
@[simp] theorem setAC_cfg (v : Byte) (carry : Bool) : (setAC v carry s).cfg = s.cfg := by simp [setAC]
@[simp] theorem setAC_shadow (v : Byte) (carry : Bool) : (setAC v carry s).shadow = s.shadow := by simp [setAC]
@[simp] theorem setAC_loggedPorts (v : Byte) (carry : Bool) : (setAC v carry s).loggedPorts = s.loggedPorts := by simp [setAC]
@[simp] theorem setAC_hookLog (v : Byte) (carry : Bool) : (setAC v carry s).hookLog = s.hookLog := by simp [setAC]
@[simp] theorem setAC_events (v : Byte) (carry : Bool) : (setAC v carry s).events = s.events := by simp [setAC]
@[simp] theorem setAC_inputs (v : Byte) (carry : Bool) : (setAC v carry s).inputs = s.inputs := by simp [setAC]
@[simp] theorem setAC_freeCount (v : Byte) (carry : Bool) : (setAC v carry s).freeCount = s.freeCount := by simp [setAC]

/-! ## Transfers -/

/-- A condition leaves alone what its transfer leaves alone. -/
theorem whenCond_keeps {α : Type} (g : State → α) (ccc : BitVec 3) (taken : State → State) (h : g (taken s) = g s) :
    g (whenCond ccc taken s) = g s := by
  unfold whenCond; split <;> simp [h]

@[simp] theorem callTo_b (w : Word) : (callTo w s).b = s.b := by simp [callTo]
@[simp] theorem callTo_c (w : Word) : (callTo w s).c = s.c := by simp [callTo]
@[simp] theorem callTo_d (w : Word) : (callTo w s).d = s.d := by simp [callTo]
@[simp] theorem callTo_e (w : Word) : (callTo w s).e = s.e := by simp [callTo]
@[simp] theorem callTo_h (w : Word) : (callTo w s).h = s.h := by simp [callTo]
@[simp] theorem callTo_l (w : Word) : (callTo w s).l = s.l := by simp [callTo]
@[simp] theorem callTo_a (w : Word) : (callTo w s).a = s.a := by simp [callTo]
@[simp] theorem callTo_f (w : Word) : (callTo w s).f = s.f := by simp [callTo]
@[simp] theorem callTo_icount (w : Word) : (callTo w s).icount = s.icount := by simp [callTo]
@[simp] theorem callTo_cfg (w : Word) : (callTo w s).cfg = s.cfg := by simp [callTo]
@[simp] theorem callTo_loggedPorts (w : Word) : (callTo w s).loggedPorts = s.loggedPorts := by simp [callTo]
@[simp] theorem callTo_hookLog (w : Word) : (callTo w s).hookLog = s.hookLog := by simp [callTo]
@[simp] theorem callTo_inputs (w : Word) : (callTo w s).inputs = s.inputs := by simp [callTo]
@[simp] theorem callTo_freeCount (w : Word) : (callTo w s).freeCount = s.freeCount := by simp [callTo]
@[simp] theorem callTo_sp (w : Word) : (callTo w s).sp = s.sp - 2 := by simp [callTo]
@[simp] theorem callTo_pc (w : Word) : (callTo w s).pc = w := by simp [callTo]
@[simp] theorem callTo_shadow (w : Word) : (callTo w s).shadow = ⟨s.sp - 2, s.pc⟩ :: s.shadow := by simp [callTo]

@[simp] theorem returnTo_b  : (returnTo s).b = s.b := by simp [returnTo]
@[simp] theorem returnTo_c  : (returnTo s).c = s.c := by simp [returnTo]
@[simp] theorem returnTo_d  : (returnTo s).d = s.d := by simp [returnTo]
@[simp] theorem returnTo_e  : (returnTo s).e = s.e := by simp [returnTo]
@[simp] theorem returnTo_h  : (returnTo s).h = s.h := by simp [returnTo]
@[simp] theorem returnTo_l  : (returnTo s).l = s.l := by simp [returnTo]
@[simp] theorem returnTo_a  : (returnTo s).a = s.a := by simp [returnTo]
@[simp] theorem returnTo_f  : (returnTo s).f = s.f := by simp [returnTo]
@[simp] theorem returnTo_icount  : (returnTo s).icount = s.icount := by simp [returnTo]
@[simp] theorem returnTo_mem  : (returnTo s).mem = s.mem := by simp [returnTo]
@[simp] theorem returnTo_cfg  : (returnTo s).cfg = s.cfg := by simp [returnTo]
@[simp] theorem returnTo_loggedPorts  : (returnTo s).loggedPorts = s.loggedPorts := by simp [returnTo]
@[simp] theorem returnTo_hookLog  : (returnTo s).hookLog = s.hookLog := by simp [returnTo]
@[simp] theorem returnTo_events  : (returnTo s).events = s.events := by simp [returnTo]
@[simp] theorem returnTo_inputs  : (returnTo s).inputs = s.inputs := by simp [returnTo]
@[simp] theorem returnTo_sp : (returnTo s).sp = s.sp + 2 := by simp [returnTo]
@[simp] theorem returnTo_pc : (returnTo s).pc = (pop16 s).1 := by simp [returnTo]

theorem callTo_called (w : Word) : Called w s (callTo w s) := ⟨_, push16_pushed s s.pc, rfl⟩

theorem popFrame_eq (p : Word) : popFrame p s = { s with shadow := (popFrame p s).shadow } := by
  unfold popFrame; split
  · split <;> rfl
  · rfl

theorem returnTo_returned : Returned s (returnTo s) :=
  ⟨_, _, pop16_popped s, by rw [returnTo, popFrame_eq]; rfl⟩

/-! ## Input -/

@[simp] theorem takeInput_b (p : Byte) (x : InAnswer) : (takeInput p x s).b = s.b := by cases x <;> simp [takeInput]
@[simp] theorem takeInput_c (p : Byte) (x : InAnswer) : (takeInput p x s).c = s.c := by cases x <;> simp [takeInput]
@[simp] theorem takeInput_d (p : Byte) (x : InAnswer) : (takeInput p x s).d = s.d := by cases x <;> simp [takeInput]
@[simp] theorem takeInput_e (p : Byte) (x : InAnswer) : (takeInput p x s).e = s.e := by cases x <;> simp [takeInput]
@[simp] theorem takeInput_h (p : Byte) (x : InAnswer) : (takeInput p x s).h = s.h := by cases x <;> simp [takeInput]
@[simp] theorem takeInput_l (p : Byte) (x : InAnswer) : (takeInput p x s).l = s.l := by cases x <;> simp [takeInput]
@[simp] theorem takeInput_f (p : Byte) (x : InAnswer) : (takeInput p x s).f = s.f := by cases x <;> simp [takeInput]
@[simp] theorem takeInput_sp (p : Byte) (x : InAnswer) : (takeInput p x s).sp = s.sp := by cases x <;> simp [takeInput]
@[simp] theorem takeInput_pc (p : Byte) (x : InAnswer) : (takeInput p x s).pc = s.pc := by cases x <;> simp [takeInput]
@[simp] theorem takeInput_icount (p : Byte) (x : InAnswer) : (takeInput p x s).icount = s.icount := by
  cases x <;> simp [takeInput]
@[simp] theorem takeInput_mem (p : Byte) (x : InAnswer) : (takeInput p x s).mem = s.mem := by cases x <;> simp [takeInput]
@[simp] theorem takeInput_cfg (p : Byte) (x : InAnswer) : (takeInput p x s).cfg = s.cfg := by cases x <;> simp [takeInput]
@[simp] theorem takeInput_shadow (p : Byte) (x : InAnswer) : (takeInput p x s).shadow = s.shadow := by
  cases x <;> simp [takeInput]
@[simp] theorem takeInput_loggedPorts (p : Byte) (x : InAnswer) : (takeInput p x s).loggedPorts = s.loggedPorts := by
  cases x <;> simp [takeInput]
@[simp] theorem takeInput_hookLog (p : Byte) (x : InAnswer) : (takeInput p x s).hookLog = s.hookLog := by
  cases x <;> simp [takeInput]
@[simp] theorem takeInput_events (p : Byte) (x : InAnswer) : (takeInput p x s).events = s.events := by
  cases x <;> simp [takeInput]
@[simp] theorem takeInput_inputs (p : Byte) (x : InAnswer) : (takeInput p x s).inputs = s.inputs := by
  cases x <;> simp [takeInput]
@[simp] theorem takeInput_freeCount (p : Byte) (x : InAnswer) : (takeInput p x s).freeCount = s.freeCount := by
  cases x <;> simp [takeInput]

end Sys2Proof.Machine
end

