-- ==== Sys2Proof/Laws/Closed.lean ====
section
/-! SUPPORT. What any instruction can do to the state, said once: a property closed under the few updates below is kept by every
instruction and by every step. -/

namespace Sys2Proof.Machine

/-- The updates every instruction is made of: a property closed under them all is kept by every instruction. -/
structure Closed (P : State → Prop) : Prop where
  reg : ∀ s r v, P s → P (s.setReg r v)
  flags : ∀ s v, SameReserved s.f v ∨ fixedBits v → P s → P (s.setF v)
  sp : ∀ s w, P s → P (s.setSp w)
  pc : ∀ s w, P s → P (s.setPc w)
  raised : ∀ s x, x ≠ .none → P s → P (raise x s)
  stored : ∀ s (a : Word) v, s.cfg.romBoundary ≤ a.toNat → P s → P (s.setMem (Memory.write s.mem a.toNat v))
  shadow : ∀ s fs, P s → P (s.setShadow fs)
  logged : ∀ s p, p ∉ s.loggedPorts → P s → P (s.setLoggedPorts (p :: s.loggedPorts))
  event : ∀ s e, P s → P (record e s)
  input : ∀ s xs, P s → P (s.setInputs xs)
  free : ∀ s n, P s → P (s.setFreeCount n)

/-! ## The reserved bits of F -/

theorem sameReserved_setAllFlags (r n : Int) (f : Byte) : SameReserved f (setAllFlags r n f) := by simp [SameReserved]
theorem sameReserved_setFlagsNotC (r n : Int) (f : Byte) : SameReserved f (setFlagsNotC r n f) := by simp [SameReserved]
theorem sameReserved_setMostFlags (r : Int) (f : Byte) : SameReserved f (setMostFlags r f) := by simp [SameReserved]
theorem sameReserved_invertAC (flip : Bool) {f g : Byte} (h : SameReserved f g) : SameReserved f (invertAC flip g) := by
  simpa [SameReserved] using h
theorem sameReserved_putC (f : Byte) (v : Bool) : SameReserved f (putC f v) := by simp [SameReserved]
theorem fixedBits_loadF (v : Byte) : fixedBits (loadF v) := by simp [fixedBits]

/-- The fixed bits of F survive a write that keeps the reserved bits. -/
theorem fixedBits_of_sameReserved {f g : Byte} (h : SameReserved f g) (hf : fixedBits f) : fixedBits g :=
  ⟨h.1.trans hf.1, h.2.1.trans hf.2.1, h.2.2.trans hf.2.2⟩

/-! ## The shared operations -/

variable {P : State → Prop} (c : Closed P) {s : State}

include c

theorem Closed.memWrite (a : Word) (v : Byte) (h : P s) : P (memWrite a v s) := by
  unfold Machine.memWrite
  split
  · exact c.raised _ _ (by simp) h
  · have h' := c.stored s a v (by omega) h
    unfold notify
    split
    · exact c.event _ _ h'
    · exact h'

theorem Closed.memWrite16 (a w : Word) (h : P s) : P (memWrite16 a w s) := c.memWrite _ _ (c.memWrite _ _ h)

theorem Closed.stackStore (a : Word) (v : Byte) (h : P s) : P (stackStore a v s) := by
  unfold Machine.stackStore
  split
  · exact c.raised _ _ (by simp) h
  · exact c.memWrite _ _ h

theorem Closed.stackLoad (a : Word) (h : P s) : P (stackLoad a s).2 := by
  unfold Machine.stackLoad
  split
  · exact c.raised _ _ (by simp) (c.free _ _ h)
  · exact h

theorem Closed.push16 (w : Word) (h : P s) : P (push16 w s) := c.stackStore _ _ (c.stackStore _ _ (c.sp _ _ h))

theorem Closed.pop16 (h : P s) : P (pop16 s).2 := c.sp _ _ (c.stackLoad _ (c.sp _ _ (c.stackLoad _ h)))

theorem Closed.callTo (w : Word) (h : P s) : P (callTo w s) := c.pc _ _ (c.shadow _ _ (c.push16 _ h))

theorem Closed.returnTo (h : P s) : P (returnTo s) := by
  have h' := c.pop16 h
  refine c.pc _ _ ?_
  unfold popFrame
  split
  · split
    · exact c.shadow _ _ h'
    · exact h'
  · exact h'

omit c in
theorem Closed.whenCond (ccc : BitVec 3) {taken : State → State} (ht : P (taken s)) (h : P s) :
    P (whenCond ccc taken s) := by
  unfold Machine.whenCond; split
  · exact ht
  · exact h

theorem Closed.setBc (w : Word) (h : P s) : P (s.setBc w) := c.reg _ _ _ (c.reg _ _ _ h)

theorem Closed.setDe (w : Word) (h : P s) : P (s.setDe w) := c.reg _ _ _ (c.reg _ _ _ h)

theorem Closed.setHl (w : Word) (h : P s) : P (s.setHl w) := c.reg _ _ _ (c.reg _ _ _ h)

theorem Closed.setRp (p : Pair) (w : Word) (h : P s) : P (setRp p w s) := by
  cases p
  · exact c.setBc _ h
  · exact c.setDe _ h
  · exact c.setHl _ h
  · exact c.sp _ _ h

theorem Closed.setOpnd (o : Sel) (v : Byte) (h : P s) : P (setOpnd o v s) := by
  cases o
  · exact c.reg _ _ _ h
  · exact c.memWrite _ _ h

theorem Closed.setPsw (w : Word) (h : P s) : P (setPsw w s) := by
  unfold Machine.setPsw
  split <;> exact c.flags _ _ (.inr (fixedBits_loadF _)) (c.reg _ _ _ h)

theorem Closed.aluAdd (v : Byte) (cin : Bool) (h : P s) : P (aluAdd v cin s) :=
  c.reg _ _ _ (c.flags _ _ (.inl (sameReserved_setAllFlags _ _ _)) h)

theorem Closed.aluCompare (v : Byte) (cin : Bool) (h : P s) : P (aluCompare v cin s) :=
  c.flags _ _ (.inl (sameReserved_invertAC _ (sameReserved_setAllFlags _ _ _))) h

theorem Closed.aluSub (v : Byte) (cin : Bool) (h : P s) : P (aluSub v cin s) := c.reg _ _ _ (c.aluCompare _ _ h)

theorem Closed.aluMost (r : Byte) (h : P s) : P (aluMost r s) :=
  c.reg _ _ _ (c.flags _ _ (.inl (sameReserved_setMostFlags _ _)) h)

theorem Closed.aluXor (v : Byte) (h : P s) : P (aluXor v s) :=
  c.reg _ _ _ (c.flags _ _ (.inl (sameReserved_setAllFlags _ _ _)) h)

theorem Closed.setAC (v : Byte) (carry : Bool) (h : P s) : P (setAC v carry s) :=
  c.reg _ _ _ (c.flags _ _ (.inl (sameReserved_putC _ _)) h)

theorem Closed.portIn (p : Byte) (h : P s) : P (portIn p s).2 := by
  unfold Machine.portIn
  split
  · refine c.event _ _ ?_
    unfold nextAnswer
    split
    · exact c.input _ _ h
    · exact c.free _ _ h
  · exact h

theorem Closed.takeInput (p : Byte) (x : InAnswer) (h : P s) : P (takeInput p x s) := by
  unfold Machine.takeInput
  split
  · exact c.reg _ _ _ h
  · exact c.raised _ _ (by simp) h

theorem Closed.portOut (p v : Byte) (h : P s) : P (portOut p v s) := by
  unfold Machine.portOut
  split
  · exact c.event _ _ h
  · unfold logPort
    split
    · exact h
    · exact c.logged _ _ ‹_› h

/-! ## Every instruction, every step -/

/-- Every instruction keeps a closed property. -/
theorem Closed.exec {t : State} (i : Instr) (he : exec i s = .next t) (h : P s) : P t := by
  have e : next? (Machine.exec i s) = some t := by rw [he]; rfl
  clear he
  cases i <;> simp only [Machine.exec] at e <;> obtain rfl : _ = t := Option.some.inj e
  case nop => exact h
  case lxi => exact c.setRp _ _ h
  case dad => exact c.setHl _ (c.flags _ _ (.inl (sameReserved_putC _ _)) h)
  case inx => exact c.setRp _ _ h
  case dcx => exact c.setRp _ _ h
  case stax => exact c.memWrite _ _ h
  case ldax => exact c.reg _ _ _ h
  case shld => exact c.memWrite16 _ _ h
  case lhld => exact c.setHl _ h
  case sta => exact c.memWrite _ _ h
  case lda => exact c.reg _ _ _ h
  case inr => exact c.setOpnd _ _ (c.flags _ _ (.inl (sameReserved_setFlagsNotC _ _ _)) h)
  case dcr => exact c.setOpnd _ _ (c.flags _ _ (.inl (sameReserved_invertAC _ (sameReserved_setFlagsNotC _ _ _))) h)
  case mvi => exact c.setOpnd _ _ h
  case daa => exact c.reg _ _ _ (c.flags _ _ (.inl (by simp [SameReserved])) h)
  case cma => exact c.reg _ _ _ h
  case stc => exact c.flags _ _ (.inl (sameReserved_putC _ _)) h
  case cmc => exact c.flags _ _ (.inl (sameReserved_putC _ _)) h
  case mov => exact c.setOpnd _ _ h
  case hlt => exact c.raised _ _ (by simp) h
  case rlc | rrc | ral | rar => exact c.setAC _ _ h
  case add | adc | adi | aci => exact c.aluAdd _ _ h
  case sub | sbb | sui | sbi => exact c.aluSub _ _ h
  case ana | ora | ani | ori => exact c.aluMost _ h
  case xra | xri => exact c.aluXor _ h
  case cmp | cpi => exact c.aluCompare _ _ h
  case rnz | rz | rnc | rc | rpo | rpe | rp | rm => exact Closed.whenCond _ (c.returnTo h) h
  case jnz | jz | jnc | jc | jpo | jpe | jp | jm => exact Closed.whenCond _ (c.pc _ _ h) h
  case cnz | cz | cnc | cc | cpo | cpe | cp | cm => exact Closed.whenCond _ (c.callTo _ h) h
  case jmp => exact c.pc _ _ h
  case call => exact c.callTo _ h
  case ret => exact c.returnTo h
  case rst => exact c.callTo _ h
  case pchl => exact c.pc _ _ h
  case popB => exact c.setBc _ (c.pop16 h)
  case popD => exact c.setDe _ (c.pop16 h)
  case popH => exact c.setHl _ (c.pop16 h)
  case popPsw => exact c.setPsw _ (c.pop16 h)
  case pushB | pushD | pushH | pushPsw => exact c.push16 _ h
  case xthl => exact c.setHl _ (c.memWrite16 _ _ h)
  case sphl => exact c.sp _ _ h
  case xchg => exact c.setDe _ (c.setHl _ h)
  case inPort => exact c.takeInput _ _ (c.portIn _ h)
  case outPort => exact c.portOut _ _ h
  all_goals exact c.raised _ _ (by simp) h

omit c

/-! ## A step -/

/-- A step of a running core is the instruction at PC, executed with PC moved past it, and then counted. -/
theorem step_running {s : State} (h : s.halted = false) :
    step s = countStep (exec (fetchInstr s) (advancePc (fetchInstr s) s)) := by simp [step, h]

/-- What a step that answers did: the core was running, the instruction at PC was executed with PC moved past it, and the step was
counted. -/
theorem step_next {s t : State} (h : step s = .next t) :
    s.halted = false ∧ ∃ u, exec (fetchInstr s) (advancePc (fetchInstr s) s) = .next u ∧ t = u.setIcount (u.icount + 1) := by
  unfold step at h
  split at h
  · cases h
  · refine ⟨by simpa using ‹¬s.halted = true›, ?_⟩
    unfold countStep at h
    split at h
    · exact ⟨_, ‹_›, by cases h; rfl⟩
    · cases h
    · cases h

/-- Every step keeps a closed property that does not read the instruction counter. -/
theorem Closed.step (c : Closed P) (hi : ∀ s n, P s → P (s.setIcount n)) {t : State} (hs : step s = .next t) (h : P s) : P t := by
  obtain ⟨_, u, hu, rfl⟩ := step_next hs
  exact hi _ _ (c.exec _ hu (c.pc _ _ h))

end Sys2Proof.Machine
end

