-- ==== Sys2Proof/Laws/Controller.lean ====
section
/-! SUPPORT. What the host's operations do: what the hooks leave, when two ranges meet, what a port map answers, and which changes of
the configuration keep the invariant. -/

namespace Sys2Proof.Machine

/-- Firing the hooks changes the hook record only. -/
theorem fireHooks_frame (s : State) : fireHooks s = { s with hookLog := (fireHooks s).hookLog } := by
  unfold fireHooks
  split <;> rfl

/-- What firing the hooks records. -/
theorem fireHooks_hookLog (s : State) :
    (fireHooks s).hookLog = if s.pc ∈ s.cfg.watch then s.hookLog ++ hooksAt s else s.hookLog := by
  unfold fireHooks
  split <;> rfl

@[simp] theorem fireHooks_halted (s : State) : (fireHooks s).halted = s.halted := by rw [fireHooks_frame]
@[simp] theorem fireHooks_icount (s : State) : (fireHooks s).icount = s.icount := by rw [fireHooks_frame]
@[simp] theorem fireHooks_cfg (s : State) : (fireHooks s).cfg = s.cfg := by rw [fireHooks_frame]
@[simp] theorem fireHooks_pc (s : State) : (fireHooks s).pc = s.pc := by rw [fireHooks_frame]

/-- Two ranges meet exactly when some address lies in both. -/
theorem rangesMeet_iff (r q : MmioRange) :
    rangesMeet r q = true ↔ ∃ a : Word, r.first ≤ a ∧ a ≤ r.last ∧ q.first ≤ a ∧ a ≤ q.last := by
  simp only [rangesMeet, decide_eq_true_eq, BitVec.le_def]
  constructor
  · intro h
    rcases le_total r.first.toNat q.first.toNat with hle | hle
    · exact ⟨q.first, by omega, by omega, by omega, by omega⟩
    · exact ⟨r.first, by omega, by omega, by omega, by omega⟩
  · rintro ⟨a, h⟩
    omega

/-- The handler a port map has after a registration: the new one for its port, the earlier one for any other. -/
theorem handlerOf_mapPort (p q : Byte) (h : Nat) (m : List PortEntry) :
    handlerOf (mapPort p h m) q = if q = p then some h else handlerOf m q := by
  by_cases hq : q = p
  · simp [handlerOf, mapPort, hq]
  · have hp : (p == q) = false := by simpa using Ne.symm hq
    have : List.find? (fun e : PortEntry => e.port == q) (m.filter fun e => !(e.port == p)) =
        List.find? (fun e => e.port == q) m := by
      rw [List.find?_filter]
      congr 1
      funext e
      by_cases he : e.port = q <;> simp [he, hq]
    simp [handlerOf, mapPort, hq, hp, this]

/-- A change of the configuration that leaves the boundary and the ranges keeps the invariant. -/
theorem State.Inv.withConfig {s : State} (hs : s.Inv) (c : HostConfig) (hb : c.romBoundary = s.cfg.romBoundary)
    (hm : c.mmio = s.cfg.mmio) : (s.setCfg c).Inv where
  memory := hs.memory
  flags := hs.flags
  cause := hs.cause
  boundary := by simpa [State.setCfg, hb] using hs.boundary
  ranges := by simpa [State.setCfg, hm] using hs.ranges
  logged := hs.logged

end Sys2Proof.Machine
end

