-- ==== Sys2Proof/Laws/PerInstr.lean ====
section
/-! SUPPORT. Statements made for all instructions, one lemma per constructor of `Instr`. -/

namespace Sys2Proof.Laws.EncodedLength

/-- The encoding of an instruction has as many bytes as the instruction is long, 1 to 3 (30_encoding.md R70). -/
def Statement (i : Instr) : Prop := (encode i).length = i.length ∧ 1 ≤ i.length ∧ i.length ≤ 3

theorem nop : Statement .nop := ⟨rfl, by decide, by decide⟩
theorem lxi (p : Pair) (d16 : Word) : Statement (.lxi p d16) := ⟨rfl, Nat.le_of_ble_eq_true rfl, Nat.le_of_ble_eq_true rfl⟩
theorem dad (p : Pair) : Statement (.dad p) := ⟨rfl, Nat.le_of_ble_eq_true rfl, Nat.le_of_ble_eq_true rfl⟩
theorem stax (p : IndexPair) : Statement (.stax p) := ⟨rfl, Nat.le_of_ble_eq_true rfl, Nat.le_of_ble_eq_true rfl⟩
theorem ldax (p : IndexPair) : Statement (.ldax p) := ⟨rfl, Nat.le_of_ble_eq_true rfl, Nat.le_of_ble_eq_true rfl⟩
theorem shld (a16 : Word) : Statement (.shld a16) := ⟨rfl, Nat.le_of_ble_eq_true rfl, Nat.le_of_ble_eq_true rfl⟩
theorem lhld (a16 : Word) : Statement (.lhld a16) := ⟨rfl, Nat.le_of_ble_eq_true rfl, Nat.le_of_ble_eq_true rfl⟩
theorem sta (a16 : Word) : Statement (.sta a16) := ⟨rfl, Nat.le_of_ble_eq_true rfl, Nat.le_of_ble_eq_true rfl⟩
theorem lda (a16 : Word) : Statement (.lda a16) := ⟨rfl, Nat.le_of_ble_eq_true rfl, Nat.le_of_ble_eq_true rfl⟩
theorem inx (p : Pair) : Statement (.inx p) := ⟨rfl, Nat.le_of_ble_eq_true rfl, Nat.le_of_ble_eq_true rfl⟩
theorem dcx (p : Pair) : Statement (.dcx p) := ⟨rfl, Nat.le_of_ble_eq_true rfl, Nat.le_of_ble_eq_true rfl⟩
theorem inr (o : Sel) : Statement (.inr o) := ⟨rfl, Nat.le_of_ble_eq_true rfl, Nat.le_of_ble_eq_true rfl⟩
theorem dcr (o : Sel) : Statement (.dcr o) := ⟨rfl, Nat.le_of_ble_eq_true rfl, Nat.le_of_ble_eq_true rfl⟩
theorem mvi (o : Sel) (d8 : Byte) : Statement (.mvi o d8) := ⟨rfl, Nat.le_of_ble_eq_true rfl, Nat.le_of_ble_eq_true rfl⟩
theorem rlc : Statement .rlc := ⟨rfl, by decide, by decide⟩
theorem rrc : Statement .rrc := ⟨rfl, by decide, by decide⟩
theorem ral : Statement .ral := ⟨rfl, by decide, by decide⟩
theorem rar : Statement .rar := ⟨rfl, by decide, by decide⟩
theorem daa : Statement .daa := ⟨rfl, by decide, by decide⟩
theorem cma : Statement .cma := ⟨rfl, by decide, by decide⟩
theorem stc : Statement .stc := ⟨rfl, by decide, by decide⟩
theorem cmc : Statement .cmc := ⟨rfl, by decide, by decide⟩
theorem mov (dst src : Sel) : Statement (.mov dst src) := ⟨rfl, Nat.le_of_ble_eq_true rfl, Nat.le_of_ble_eq_true rfl⟩
theorem hlt : Statement .hlt := ⟨rfl, by decide, by decide⟩
theorem add (o : Sel) : Statement (.add o) := ⟨rfl, Nat.le_of_ble_eq_true rfl, Nat.le_of_ble_eq_true rfl⟩
theorem adc (o : Sel) : Statement (.adc o) := ⟨rfl, Nat.le_of_ble_eq_true rfl, Nat.le_of_ble_eq_true rfl⟩
theorem sub (o : Sel) : Statement (.sub o) := ⟨rfl, Nat.le_of_ble_eq_true rfl, Nat.le_of_ble_eq_true rfl⟩
theorem sbb (o : Sel) : Statement (.sbb o) := ⟨rfl, Nat.le_of_ble_eq_true rfl, Nat.le_of_ble_eq_true rfl⟩
theorem ana (o : Sel) : Statement (.ana o) := ⟨rfl, Nat.le_of_ble_eq_true rfl, Nat.le_of_ble_eq_true rfl⟩
theorem xra (o : Sel) : Statement (.xra o) := ⟨rfl, Nat.le_of_ble_eq_true rfl, Nat.le_of_ble_eq_true rfl⟩
theorem ora (o : Sel) : Statement (.ora o) := ⟨rfl, Nat.le_of_ble_eq_true rfl, Nat.le_of_ble_eq_true rfl⟩
theorem cmp (o : Sel) : Statement (.cmp o) := ⟨rfl, Nat.le_of_ble_eq_true rfl, Nat.le_of_ble_eq_true rfl⟩
theorem rnz : Statement .rnz := ⟨rfl, by decide, by decide⟩
theorem rz : Statement .rz := ⟨rfl, by decide, by decide⟩
theorem rnc : Statement .rnc := ⟨rfl, by decide, by decide⟩
theorem rc : Statement .rc := ⟨rfl, by decide, by decide⟩
theorem rpo : Statement .rpo := ⟨rfl, by decide, by decide⟩
theorem rpe : Statement .rpe := ⟨rfl, by decide, by decide⟩
theorem rp : Statement .rp := ⟨rfl, by decide, by decide⟩
theorem rm : Statement .rm := ⟨rfl, by decide, by decide⟩
theorem jnz (a16 : Word) : Statement (.jnz a16) := ⟨rfl, Nat.le_of_ble_eq_true rfl, Nat.le_of_ble_eq_true rfl⟩
theorem jz (a16 : Word) : Statement (.jz a16) := ⟨rfl, Nat.le_of_ble_eq_true rfl, Nat.le_of_ble_eq_true rfl⟩
theorem jnc (a16 : Word) : Statement (.jnc a16) := ⟨rfl, Nat.le_of_ble_eq_true rfl, Nat.le_of_ble_eq_true rfl⟩
theorem jc (a16 : Word) : Statement (.jc a16) := ⟨rfl, Nat.le_of_ble_eq_true rfl, Nat.le_of_ble_eq_true rfl⟩
theorem jpo (a16 : Word) : Statement (.jpo a16) := ⟨rfl, Nat.le_of_ble_eq_true rfl, Nat.le_of_ble_eq_true rfl⟩
theorem jpe (a16 : Word) : Statement (.jpe a16) := ⟨rfl, Nat.le_of_ble_eq_true rfl, Nat.le_of_ble_eq_true rfl⟩
theorem jp (a16 : Word) : Statement (.jp a16) := ⟨rfl, Nat.le_of_ble_eq_true rfl, Nat.le_of_ble_eq_true rfl⟩
theorem jm (a16 : Word) : Statement (.jm a16) := ⟨rfl, Nat.le_of_ble_eq_true rfl, Nat.le_of_ble_eq_true rfl⟩
theorem cnz (a16 : Word) : Statement (.cnz a16) := ⟨rfl, Nat.le_of_ble_eq_true rfl, Nat.le_of_ble_eq_true rfl⟩
theorem cz (a16 : Word) : Statement (.cz a16) := ⟨rfl, Nat.le_of_ble_eq_true rfl, Nat.le_of_ble_eq_true rfl⟩
theorem cnc (a16 : Word) : Statement (.cnc a16) := ⟨rfl, Nat.le_of_ble_eq_true rfl, Nat.le_of_ble_eq_true rfl⟩
theorem cc (a16 : Word) : Statement (.cc a16) := ⟨rfl, Nat.le_of_ble_eq_true rfl, Nat.le_of_ble_eq_true rfl⟩
theorem cpo (a16 : Word) : Statement (.cpo a16) := ⟨rfl, Nat.le_of_ble_eq_true rfl, Nat.le_of_ble_eq_true rfl⟩
theorem cpe (a16 : Word) : Statement (.cpe a16) := ⟨rfl, Nat.le_of_ble_eq_true rfl, Nat.le_of_ble_eq_true rfl⟩
theorem cp (a16 : Word) : Statement (.cp a16) := ⟨rfl, Nat.le_of_ble_eq_true rfl, Nat.le_of_ble_eq_true rfl⟩
theorem cm (a16 : Word) : Statement (.cm a16) := ⟨rfl, Nat.le_of_ble_eq_true rfl, Nat.le_of_ble_eq_true rfl⟩
theorem jmp (a16 : Word) : Statement (.jmp a16) := ⟨rfl, Nat.le_of_ble_eq_true rfl, Nat.le_of_ble_eq_true rfl⟩
theorem call (a16 : Word) : Statement (.call a16) := ⟨rfl, Nat.le_of_ble_eq_true rfl, Nat.le_of_ble_eq_true rfl⟩
theorem ret : Statement .ret := ⟨rfl, by decide, by decide⟩
theorem rst (n : BitVec 3) : Statement (.rst n) := ⟨rfl, Nat.le_of_ble_eq_true rfl, Nat.le_of_ble_eq_true rfl⟩
theorem pchl : Statement .pchl := ⟨rfl, by decide, by decide⟩
theorem popB : Statement .popB := ⟨rfl, by decide, by decide⟩
theorem popD : Statement .popD := ⟨rfl, by decide, by decide⟩
theorem popH : Statement .popH := ⟨rfl, by decide, by decide⟩
theorem popPsw : Statement .popPsw := ⟨rfl, by decide, by decide⟩
theorem pushB : Statement .pushB := ⟨rfl, by decide, by decide⟩
theorem pushD : Statement .pushD := ⟨rfl, by decide, by decide⟩
theorem pushH : Statement .pushH := ⟨rfl, by decide, by decide⟩
theorem pushPsw : Statement .pushPsw := ⟨rfl, by decide, by decide⟩
theorem xthl : Statement .xthl := ⟨rfl, by decide, by decide⟩
theorem sphl : Statement .sphl := ⟨rfl, by decide, by decide⟩
theorem xchg : Statement .xchg := ⟨rfl, by decide, by decide⟩
theorem adi (d8 : Byte) : Statement (.adi d8) := ⟨rfl, Nat.le_of_ble_eq_true rfl, Nat.le_of_ble_eq_true rfl⟩
theorem aci (d8 : Byte) : Statement (.aci d8) := ⟨rfl, Nat.le_of_ble_eq_true rfl, Nat.le_of_ble_eq_true rfl⟩
theorem sui (d8 : Byte) : Statement (.sui d8) := ⟨rfl, Nat.le_of_ble_eq_true rfl, Nat.le_of_ble_eq_true rfl⟩
theorem sbi (d8 : Byte) : Statement (.sbi d8) := ⟨rfl, Nat.le_of_ble_eq_true rfl, Nat.le_of_ble_eq_true rfl⟩
theorem ani (d8 : Byte) : Statement (.ani d8) := ⟨rfl, Nat.le_of_ble_eq_true rfl, Nat.le_of_ble_eq_true rfl⟩
theorem xri (d8 : Byte) : Statement (.xri d8) := ⟨rfl, Nat.le_of_ble_eq_true rfl, Nat.le_of_ble_eq_true rfl⟩
theorem ori (d8 : Byte) : Statement (.ori d8) := ⟨rfl, Nat.le_of_ble_eq_true rfl, Nat.le_of_ble_eq_true rfl⟩
theorem cpi (d8 : Byte) : Statement (.cpi d8) := ⟨rfl, Nat.le_of_ble_eq_true rfl, Nat.le_of_ble_eq_true rfl⟩
theorem inPort (p8 : Byte) : Statement (.inPort p8) := ⟨rfl, Nat.le_of_ble_eq_true rfl, Nat.le_of_ble_eq_true rfl⟩
theorem outPort (p8 : Byte) : Statement (.outPort p8) := ⟨rfl, Nat.le_of_ble_eq_true rfl, Nat.le_of_ble_eq_true rfl⟩
theorem unmatched08 : Statement .unmatched08 := ⟨rfl, by decide, by decide⟩
theorem unmatched10 : Statement .unmatched10 := ⟨rfl, by decide, by decide⟩
theorem unmatched18 : Statement .unmatched18 := ⟨rfl, by decide, by decide⟩
theorem unmatched20 : Statement .unmatched20 := ⟨rfl, by decide, by decide⟩
theorem unmatched28 : Statement .unmatched28 := ⟨rfl, by decide, by decide⟩
theorem unmatched30 : Statement .unmatched30 := ⟨rfl, by decide, by decide⟩
theorem unmatched38 : Statement .unmatched38 := ⟨rfl, by decide, by decide⟩
theorem unmatchedCB : Statement .unmatchedCB := ⟨rfl, by decide, by decide⟩
theorem unmatchedD9 : Statement .unmatchedD9 := ⟨rfl, by decide, by decide⟩
theorem unmatchedDD : Statement .unmatchedDD := ⟨rfl, by decide, by decide⟩
theorem unmatchedED : Statement .unmatchedED := ⟨rfl, by decide, by decide⟩
theorem unmatchedFD : Statement .unmatchedFD := ⟨rfl, by decide, by decide⟩
theorem unmatchedF3 : Statement .unmatchedF3 := ⟨rfl, by decide, by decide⟩
theorem unmatchedFB : Statement .unmatchedFB := ⟨rfl, by decide, by decide⟩

end Sys2Proof.Laws.EncodedLength
end

