-- ==== Sys2Proof/Tests/Slice0.lean ====
section
/-! SUPPORT. The model's own tests: the check of well-formedness, decoding on words written out from 30_encoding.md R76, one-step
vectors of 95_test_vectors.md (their numbers are in the names), and a witness for the hypotheses of each obligation. -/

open Sys2Proof Sys2Proof.Machine

namespace Sys2Proof.Tests

/-! ## Well-formedness: the one ill-formed term, and its neighbours -/

theorem test_movMM_is_refused : (Instr.mov .m .m).wellFormed = false := by decide

theorem test_other_movs_pass :
    (Instr.mov .m (.reg .a)).wellFormed = true ∧ (Instr.mov (.reg .a) .m).wellFormed = true ∧
      (Instr.mov (.reg .b) (.reg .b)).wellFormed = true := by decide

theorem test_no_bytes_is_rejected : decodeBytes [] = .error (.truncated 1 0) := by decide

theorem test_short_bytes_are_rejected : decodeBytes [0x21, 0x34] = .error (.truncated 3 2) := by decide

/-! ## Decoding: one word of each constructor, written from the patterns of R76; the bytes after it are 0x34 and 0x12 -/

def wordsFamily00 : List (Byte × Instr) :=
  [ (0b00000000, .nop), (0b00100001, .lxi .hl 0x1234), (0b00011001, .dad .de), (0b00010010, .stax .de),
    (0b00001010, .ldax .bc), (0b00100010, .shld 0x1234), (0b00101010, .lhld 0x1234), (0b00110010, .sta 0x1234),
    (0b00111010, .lda 0x1234), (0b00110011, .inx .sp), (0b00001011, .dcx .bc), (0b00011100, .inr (.reg .e)),
    (0b00110101, .dcr .m), (0b00111110, .mvi (.reg .a) 0x34), (0b00000111, .rlc), (0b00001111, .rrc),
    (0b00010111, .ral), (0b00011111, .rar), (0b00100111, .daa), (0b00101111, .cma), (0b00110111, .stc),
    (0b00111111, .cmc) ]

theorem test_decode_Family00 : wordsFamily00.all (fun w => decode w.1 0x34 0x12 = w.2) = true := by decide

def wordsFamily01 : List (Byte × Instr) :=
  [ (0b01101110, .mov (.reg .l) .m), (0b01110110, .hlt) ]

theorem test_decode_Family01 : wordsFamily01.all (fun w => decode w.1 0x34 0x12 = w.2) = true := by decide

def wordsFamily10 : List (Byte × Instr) :=
  [ (0b10000000, .add (.reg .b)), (0b10001001, .adc (.reg .c)), (0b10010010, .sub (.reg .d)),
    (0b10011011, .sbb (.reg .e)), (0b10100100, .ana (.reg .h)), (0b10101101, .xra (.reg .l)),
    (0b10110110, .ora .m), (0b10111111, .cmp (.reg .a)) ]

theorem test_decode_Family10 : wordsFamily10.all (fun w => decode w.1 0x34 0x12 = w.2) = true := by decide

def wordsFamily11_1 : List (Byte × Instr) :=
  [ (0b11000000, .rnz), (0b11001000, .rz), (0b11010000, .rnc), (0b11011000, .rc), (0b11100000, .rpo),
    (0b11101000, .rpe), (0b11110000, .rp), (0b11111000, .rm), (0b11000010, .jnz 0x1234), (0b11001010, .jz 0x1234),
    (0b11010010, .jnc 0x1234), (0b11011010, .jc 0x1234), (0b11100010, .jpo 0x1234), (0b11101010, .jpe 0x1234),
    (0b11110010, .jp 0x1234), (0b11111010, .jm 0x1234), (0b11000100, .cnz 0x1234), (0b11001100, .cz 0x1234),
    (0b11010100, .cnc 0x1234), (0b11011100, .cc 0x1234), (0b11100100, .cpo 0x1234), (0b11101100, .cpe 0x1234) ]

theorem test_decode_Family11_1 : wordsFamily11_1.all (fun w => decode w.1 0x34 0x12 = w.2) = true := by decide

def wordsFamily11_2 : List (Byte × Instr) :=
  [ (0b11110100, .cp 0x1234), (0b11111100, .cm 0x1234), (0b11000011, .jmp 0x1234), (0b11001101, .call 0x1234),
    (0b11001001, .ret), (0b11101111, .rst 5), (0b11101001, .pchl), (0b11000001, .popB), (0b11010001, .popD),
    (0b11100001, .popH), (0b11110001, .popPsw), (0b11000101, .pushB), (0b11010101, .pushD), (0b11100101, .pushH),
    (0b11110101, .pushPsw), (0b11100011, .xthl), (0b11111001, .sphl), (0b11101011, .xchg), (0b11000110, .adi 0x34),
    (0b11001110, .aci 0x34), (0b11010110, .sui 0x34), (0b11011110, .sbi 0x34) ]

theorem test_decode_Family11_2 : wordsFamily11_2.all (fun w => decode w.1 0x34 0x12 = w.2) = true := by decide

def wordsFamily11_3 : List (Byte × Instr) :=
  [ (0b11100110, .ani 0x34), (0b11101110, .xri 0x34), (0b11110110, .ori 0x34), (0b11111110, .cpi 0x34),
    (0b11011011, .inPort 0x34), (0b11010011, .outPort 0x34) ]

theorem test_decode_Family11_3 : wordsFamily11_3.all (fun w => decode w.1 0x34 0x12 = w.2) = true := by decide

def wordsUnmatched : List (Byte × Instr) :=
  [ (0b00001000, .unmatched08), (0b00010000, .unmatched10), (0b00011000, .unmatched18), (0b00100000, .unmatched20),
    (0b00101000, .unmatched28), (0b00110000, .unmatched30), (0b00111000, .unmatched38), (0b11001011, .unmatchedCB),
    (0b11011001, .unmatchedD9), (0b11011101, .unmatchedDD), (0b11101101, .unmatchedED), (0b11111101, .unmatchedFD),
    (0b11110011, .unmatchedF3), (0b11111011, .unmatchedFB) ]

theorem test_decode_Unmatched : wordsUnmatched.all (fun w => decode w.1 0x34 0x12 = w.2) = true := by decide

/-- The counts of 30_encoding.md R76 and R77: 198 first bytes of one-byte instructions, 18 of two, 26 of three, 14 unmatched. -/
theorem test_census :
    (List.range' 1 3).map (fun n => ((List.range 256).filter fun b =>
      !isUnmatched (decode (BitVec.ofNat 8 b) 0 0) && (decode (BitVec.ofNat 8 b) 0 0).length == n).length) = [198, 18, 26] ∧
      ((List.range 256).filter fun b => isUnmatched (decode (BitVec.ofNat 8 b) 0 0)) =
        [0x08, 0x10, 0x18, 0x20, 0x28, 0x30, 0x38, 0xCB, 0xD9, 0xDD, 0xED, 0xF3, 0xFB, 0xFD] := by decide +kernel

/-- The table's numbering: the first byte is the low byte of the number, operand bytes above `nbits` are 0. -/
theorem test_decodeTableWord :
    decodeTableWord 24 0x123421 = some (.lxi .hl 0x1234) ∧ decodeTableWord 8 0x21 = some (.lxi .hl 0) ∧
      decodeTableWord 16 0x55DB = some (.inPort 0x55) ∧ decodeTableWord 8 0xCB = some .unmatchedCB := by decide

/-! ## One-step vectors -/

/-- The default start of the vectors of 95_test_vectors.md, with bytes at PC, cells of memory and other fields as given. -/
def start (pc : Word) (bytes : List Byte) (cells : List (Word × Byte)) (edit : State → State) : State :=
  edit (cells.foldl (fun s c => placeBytes c.1 [c.2] s) (placeBytes pc bytes { State.reset with pc := pc }))

/-- The state after one step, but for the diagnostic state and what the input handler saw. -/
def after (s : State) : Option State :=
  (next? (step s)).map fun t => { t with
    shadow := [], loggedPorts := [], events := t.events.filter fun e => match e with | .portIn _ _ _ _ => false | _ => true }

theorem test_V54_nop :
    after (start 0xFFFF [0x00] [] fun s => s) =
      some (start 0xFFFF [0x00] [] fun s => { s with pc := 0x0000, icount := 1 }) := by decide

theorem test_V55_lxi :
    after (start 0x0100 [0x21, 0x34, 0x12] [] fun s => s) =
      some (start 0x0100 [0x21, 0x34, 0x12] [] fun s => { s with h := 0x12, l := 0x34, pc := 0x0103, icount := 1 }) := by decide

theorem test_V56_lxi :
    after (start 0x0100 [0x31, 0x00, 0x24] [] fun s => s) =
      some (start 0x0100 [0x31, 0x00, 0x24] [] fun s => { s with sp := 0x2400, pc := 0x0103, icount := 1 }) := by decide

theorem test_V59_dad :
    after (start 0x0100 [0x39] [] fun s => { s with h := 0xFF, l := 0xFF, sp := 0x0001 }) =
      some (start 0x0100 [0x39] [] fun s => { s with h := 0x00, l := 0x00, f := 0x03, sp := 0x0001, pc := 0x0101, icount := 1 }) := by decide

theorem test_V61_dad :
    after (start 0x0100 [0x19] [] fun s => { s with d := 0x00, e := 0x01, h := 0x00, l := 0xFF, f := 0x03 }) =
      some (start 0x0100 [0x19] [] fun s => { s with d := 0x00, e := 0x01, h := 0x01, l := 0x00, f := 0x02, pc := 0x0101, icount := 1 }) := by decide

theorem test_V62_stax :
    after (start 0x0100 [0x02] [] fun s => { s with a := 0x5A, b := 0x30, c := 0x05 }) =
      some (start 0x0100 [0x02] [(0x3005, 0x5A)] fun s => { s with a := 0x5A, b := 0x30, c := 0x05, pc := 0x0101, icount := 1 }) := by decide

theorem test_V63_stax :
    after (start 0x0100 [0x12] [] fun s => { s with a := 0x5A, d := 0x00, e := 0x05, cfg := { defaultConfig with romBoundary := 0x0100 } }) =
      some (start 0x0100 [0x12] [] fun s => { s with a := 0x5A, d := 0x00, e := 0x05, cfg := { defaultConfig with romBoundary := 0x0100 }, pc := 0x0101, icount := 1, halted := true, haltCause := .readOnlyViolation 0x0005 0x5A }) := by decide

theorem test_V64_ldax :
    after (start 0x0100 [0x1A] [(0x3006, 0xC3)] fun s => { s with d := 0x30, e := 0x06 }) =
      some (start 0x0100 [0x1A] [(0x3006, 0xC3)] fun s => { s with a := 0xC3, d := 0x30, e := 0x06, pc := 0x0101, icount := 1 }) := by decide

theorem test_V65_ldax :
    after (start 0x0100 [0x0A] [(0x3006, 0xC3)] fun s => { s with b := 0x30, c := 0x06 }) =
      some (start 0x0100 [0x0A] [(0x3006, 0xC3)] fun s => { s with a := 0xC3, b := 0x30, c := 0x06, pc := 0x0101, icount := 1 }) := by decide

theorem test_V173_shld :
    after (start 0x0200 [0x22, 0xFF, 0x00] [] fun s => { s with h := 0xAE, l := 0x29, cfg := { defaultConfig with romBoundary := 0x0100 } }) =
      some (start 0x0200 [0x22, 0xFF, 0x00] [(0x0100, 0xAE)] fun s => { s with h := 0xAE, l := 0x29, cfg := { defaultConfig with romBoundary := 0x0100 }, pc := 0x0203, icount := 1, halted := true, haltCause := .readOnlyViolation 0x00FF 0x29 }) := by decide

theorem test_V181_shld :
    after (start 0x0100 [0x22, 0xFF, 0x80] [] fun s => { s with h := 0xAE, l := 0x29, cfg := { defaultConfig with mmio := [⟨0x8000, 0x80FF, 7⟩] } }) =
      some (start 0x0100 [0x22, 0xFF, 0x80] [(0x80FF, 0x29), (0x8100, 0xAE)] fun s => { s with h := 0xAE, l := 0x29, cfg := { defaultConfig with mmio := [⟨0x8000, 0x80FF, 7⟩] }, pc := 0x0103, icount := 1, events := [.onWrite 7 0x80FF 0x00 0x29] }) := by decide

theorem test_V68_lhld :
    after (start 0x0100 [0x2A, 0x5B, 0x02] [(0x025B, 0xFF), (0x025C, 0x03)] fun s => s) =
      some (start 0x0100 [0x2A, 0x5B, 0x02] [(0x025B, 0xFF), (0x025C, 0x03)] fun s => { s with h := 0x03, l := 0xFF, pc := 0x0103, icount := 1 }) := by decide

theorem test_V176_sta :
    after (start 0x0200 [0x32, 0xFF, 0x00] [] fun s => { s with a := 0x99, cfg := { defaultConfig with romBoundary := 0x0100 } }) =
      some (start 0x0200 [0x32, 0xFF, 0x00] [] fun s => { s with a := 0x99, cfg := { defaultConfig with romBoundary := 0x0100 }, pc := 0x0203, icount := 1, halted := true, haltCause := .readOnlyViolation 0x00FF 0x99 }) := by decide

theorem test_V179_sta :
    after (start 0x0100 [0x32, 0xFF, 0x80] [] fun s => { s with a := 0x41, cfg := { defaultConfig with mmio := [⟨0x8000, 0x80FF, 7⟩] } }) =
      some (start 0x0100 [0x32, 0xFF, 0x80] [(0x80FF, 0x41)] fun s => { s with a := 0x41, cfg := { defaultConfig with mmio := [⟨0x8000, 0x80FF, 7⟩] }, pc := 0x0103, icount := 1, events := [.onWrite 7 0x80FF 0x00 0x41] }) := by decide

theorem test_V70_lda :
    after (start 0x0100 [0x3A, 0x00, 0x03] [(0x0300, 0x42)] fun s => s) =
      some (start 0x0100 [0x3A, 0x00, 0x03] [(0x0300, 0x42)] fun s => { s with a := 0x42, pc := 0x0103, icount := 1 }) := by decide

theorem test_V71_inx :
    after (start 0x0100 [0x13] [] fun s => { s with d := 0x38, e := 0xFF, f := 0xD7 }) =
      some (start 0x0100 [0x13] [] fun s => { s with d := 0x39, e := 0x00, f := 0xD7, pc := 0x0101, icount := 1 }) := by decide

theorem test_V72_inx :
    after (start 0x0100 [0x33] [] fun s => { s with sp := 0xFFFF }) =
      some (start 0x0100 [0x33] [] fun s => { s with sp := 0x0000, pc := 0x0101, icount := 1 }) := by decide

theorem test_V75_dcx :
    after (start 0x0100 [0x0B] [] fun s => { s with b := 0x00, c := 0x00, f := 0x03 }) =
      some (start 0x0100 [0x0B] [] fun s => { s with b := 0xFF, c := 0xFF, f := 0x03, pc := 0x0101, icount := 1 }) := by decide

theorem test_V76_dcx :
    after (start 0x0100 [0x3B] [] fun s => { s with sp := 0x0000 }) =
      some (start 0x0100 [0x3B] [] fun s => { s with sp := 0xFFFF, pc := 0x0101, icount := 1 }) := by decide

theorem test_V81_inr :
    after (start 0x0100 [0x34] [(0x2000, 0x0F)] fun s => { s with h := 0x20, l := 0x00 }) =
      some (start 0x0100 [0x34] [(0x2000, 0x10)] fun s => { s with h := 0x20, l := 0x00, f := 0x12, pc := 0x0101, icount := 1 }) := by decide

theorem test_V175_inr :
    after (start 0x0200 [0x34] [(0x0020, 0xFF)] fun s => { s with h := 0x00, l := 0x20, cfg := { defaultConfig with romBoundary := 0x0100 } }) =
      some (start 0x0200 [0x34] [(0x0020, 0xFF)] fun s => { s with h := 0x00, l := 0x20, f := 0x56, cfg := { defaultConfig with romBoundary := 0x0100 }, pc := 0x0201, icount := 1, halted := true, haltCause := .readOnlyViolation 0x0020 0x00 }) := by decide

theorem test_V82_dcr :
    after (start 0x0100 [0x05] [] fun s => { s with b := 0x00, f := 0x03 }) =
      some (start 0x0100 [0x05] [] fun s => { s with b := 0xFF, f := 0x97, pc := 0x0101, icount := 1 }) := by decide

theorem test_V86_dcr :
    after (start 0x0100 [0x35] [(0x3A7C, 0x40)] fun s => { s with h := 0x3A, l := 0x7C }) =
      some (start 0x0100 [0x35] [(0x3A7C, 0x3F)] fun s => { s with h := 0x3A, l := 0x7C, f := 0x16, pc := 0x0101, icount := 1 }) := by decide

theorem test_V87_mvi :
    after (start 0x0100 [0x06, 0x3C] [] fun s => s) =
      some (start 0x0100 [0x06, 0x3C] [] fun s => { s with b := 0x3C, pc := 0x0102, icount := 1 }) := by decide

theorem test_V89_mvi :
    after (start 0x0100 [0x36, 0xFF] [(0x0010, 0x77)] fun s => { s with h := 0x00, l := 0x10, cfg := { defaultConfig with romBoundary := 0x0100 } }) =
      some (start 0x0100 [0x36, 0xFF] [(0x0010, 0x77)] fun s => { s with h := 0x00, l := 0x10, cfg := { defaultConfig with romBoundary := 0x0100 }, pc := 0x0102, icount := 1, halted := true, haltCause := .readOnlyViolation 0x0010 0xFF }) := by decide

theorem test_V90_rlc :
    after (start 0x0100 [0x07] [] fun s => { s with a := 0xF2 }) =
      some (start 0x0100 [0x07] [] fun s => { s with a := 0xE5, f := 0x03, pc := 0x0101, icount := 1 }) := by decide

theorem test_V91_rlc :
    after (start 0x0100 [0x07] [] fun s => { s with a := 0x01, f := 0x03 }) =
      some (start 0x0100 [0x07] [] fun s => { s with a := 0x02, f := 0x02, pc := 0x0101, icount := 1 }) := by decide

theorem test_V92_rrc :
    after (start 0x0100 [0x0F] [] fun s => { s with a := 0xF2, f := 0x03 }) =
      some (start 0x0100 [0x0F] [] fun s => { s with a := 0x79, f := 0x02, pc := 0x0101, icount := 1 }) := by decide

theorem test_V93_rrc :
    after (start 0x0100 [0x0F] [] fun s => { s with a := 0x01 }) =
      some (start 0x0100 [0x0F] [] fun s => { s with a := 0x80, f := 0x03, pc := 0x0101, icount := 1 }) := by decide

theorem test_V94_ral :
    after (start 0x0100 [0x17] [] fun s => { s with a := 0xB5 }) =
      some (start 0x0100 [0x17] [] fun s => { s with a := 0x6A, f := 0x03, pc := 0x0101, icount := 1 }) := by decide

theorem test_V95_ral :
    after (start 0x0100 [0x17] [] fun s => { s with a := 0x35, f := 0x03 }) =
      some (start 0x0100 [0x17] [] fun s => { s with a := 0x6B, f := 0x02, pc := 0x0101, icount := 1 }) := by decide

theorem test_V96_rar :
    after (start 0x0100 [0x1F] [] fun s => { s with a := 0x6A, f := 0x03 }) =
      some (start 0x0100 [0x1F] [] fun s => { s with a := 0xB5, f := 0x02, pc := 0x0101, icount := 1 }) := by decide

theorem test_V97_rar :
    after (start 0x0100 [0x1F] [] fun s => { s with a := 0x01 }) =
      some (start 0x0100 [0x1F] [] fun s => { s with a := 0x00, f := 0x03, pc := 0x0101, icount := 1 }) := by decide

theorem test_V101_daa :
    after (start 0x0100 [0x27] [] fun s => { s with a := 0x9A }) =
      some (start 0x0100 [0x27] [] fun s => { s with a := 0x00, f := 0x57, pc := 0x0101, icount := 1 }) := by decide

theorem test_V105_daa :
    after (start 0x0100 [0x27] [] fun s => { s with a := 0x7D, f := 0x06 }) =
      some (start 0x0100 [0x27] [] fun s => { s with a := 0x83, f := 0x92, pc := 0x0101, icount := 1 }) := by decide

theorem test_V106_cma :
    after (start 0x0100 [0x2F] [] fun s => { s with a := 0x51, f := 0xD7 }) =
      some (start 0x0100 [0x2F] [] fun s => { s with a := 0xAE, f := 0xD7, pc := 0x0101, icount := 1 }) := by decide

theorem test_V107_stc :
    after (start 0x0100 [0x37] [] fun s => s) =
      some (start 0x0100 [0x37] [] fun s => { s with f := 0x03, pc := 0x0101, icount := 1 }) := by decide

theorem test_V108_stc :
    after (start 0x0100 [0x37] [] fun s => { s with f := 0xD7 }) =
      some (start 0x0100 [0x37] [] fun s => { s with f := 0xD7, pc := 0x0101, icount := 1 }) := by decide

theorem test_V109_cmc :
    after (start 0x0100 [0x3F] [] fun s => { s with f := 0x03 }) =
      some (start 0x0100 [0x3F] [] fun s => { s with f := 0x02, pc := 0x0101, icount := 1 }) := by decide

theorem test_V110_cmc :
    after (start 0x0100 [0x3F] [] fun s => { s with f := 0xD6 }) =
      some (start 0x0100 [0x3F] [] fun s => { s with f := 0xD7, pc := 0x0101, icount := 1 }) := by decide

theorem test_V48_mov :
    after (start 0x0100 [0x66] [(0x2010, 0x7F)] fun s => { s with h := 0x20, l := 0x10 }) =
      some (start 0x0100 [0x66] [(0x2010, 0x7F)] fun s => { s with h := 0x7F, l := 0x10, pc := 0x0101, icount := 1 }) := by decide

theorem test_V50_mov :
    after (start 0x0100 [0x75] [] fun s => { s with h := 0x00, l := 0x10, cfg := { defaultConfig with romBoundary := 0x0100 } }) =
      some (start 0x0100 [0x75] [] fun s => { s with h := 0x00, l := 0x10, cfg := { defaultConfig with romBoundary := 0x0100 }, pc := 0x0101, icount := 1, halted := true, haltCause := .readOnlyViolation 0x0010 0x10 }) := by decide

theorem test_V52_hlt :
    after (start 0x0100 [0x76] [] fun s => { s with f := 0xD7 }) =
      some (start 0x0100 [0x76] [] fun s => { s with f := 0xD7, pc := 0x0101, icount := 1, halted := true, haltCause := .hltInstruction }) := by decide

theorem test_V1_add :
    after (start 0x0100 [0x80] [] fun s => { s with a := 0x6C, b := 0x2E }) =
      some (start 0x0100 [0x80] [] fun s => { s with a := 0x9A, b := 0x2E, f := 0x96, pc := 0x0101, icount := 1 }) := by decide

theorem test_V4_add :
    after (start 0x0100 [0x81] [] fun s => { s with a := 0x0F, c := 0x01 }) =
      some (start 0x0100 [0x81] [] fun s => { s with a := 0x10, c := 0x01, f := 0x12, pc := 0x0101, icount := 1 }) := by decide

theorem test_V6_adc :
    after (start 0x0100 [0x89] [] fun s => { s with a := 0x00, c := 0xFF, f := 0x03 }) =
      some (start 0x0100 [0x89] [] fun s => { s with a := 0x00, c := 0xFF, f := 0x57, pc := 0x0101, icount := 1 }) := by decide

theorem test_V7_adc :
    after (start 0x0100 [0x88] [] fun s => { s with a := 0x00, b := 0x0F, f := 0x03 }) =
      some (start 0x0100 [0x88] [] fun s => { s with a := 0x10, b := 0x0F, f := 0x12, pc := 0x0101, icount := 1 }) := by decide

theorem test_V9_sub :
    after (start 0x0100 [0x90] [] fun s => { s with a := 0x05, b := 0x0A }) =
      some (start 0x0100 [0x90] [] fun s => { s with a := 0xFB, b := 0x0A, f := 0x83, pc := 0x0101, icount := 1 }) := by decide

theorem test_V13_sub :
    after (start 0x0100 [0x93] [] fun s => { s with a := 0x10, e := 0x01 }) =
      some (start 0x0100 [0x93] [] fun s => { s with a := 0x0F, e := 0x01, f := 0x06, pc := 0x0101, icount := 1 }) := by decide

theorem test_V15_sbb :
    after (start 0x0100 [0x98] [] fun s => { s with a := 0x12, b := 0xFF, f := 0x03 }) =
      some (start 0x0100 [0x98] [] fun s => { s with a := 0x12, b := 0xFF, f := 0x07, pc := 0x0101, icount := 1 }) := by decide

theorem test_V16_sbb :
    after (start 0x0100 [0x98] [] fun s => { s with a := 0x10, b := 0x0F, f := 0x03 }) =
      some (start 0x0100 [0x98] [] fun s => { s with a := 0x00, b := 0x0F, f := 0x46, pc := 0x0101, icount := 1 }) := by decide

theorem test_V18_ana :
    after (start 0x0100 [0xA0] [] fun s => { s with a := 0xFC, b := 0x0F, f := 0x13 }) =
      some (start 0x0100 [0xA0] [] fun s => { s with a := 0x0C, b := 0x0F, f := 0x16, pc := 0x0101, icount := 1 }) := by decide

theorem test_V20_ana :
    after (start 0x0100 [0xA7] [] fun s => { s with a := 0x00, f := 0x03 }) =
      some (start 0x0100 [0xA7] [] fun s => { s with a := 0x00, f := 0x46, pc := 0x0101, icount := 1 }) := by decide

theorem test_V21_xra :
    after (start 0x0100 [0xA8] [] fun s => { s with a := 0x5C, b := 0x78, f := 0x13 }) =
      some (start 0x0100 [0xA8] [] fun s => { s with a := 0x24, b := 0x78, f := 0x06, pc := 0x0101, icount := 1 }) := by decide

theorem test_V22_xra :
    after (start 0x0100 [0xAF] [] fun s => { s with a := 0x9D, f := 0x97 }) =
      some (start 0x0100 [0xAF] [] fun s => { s with a := 0x00, f := 0x46, pc := 0x0101, icount := 1 }) := by decide

theorem test_V23_ora :
    after (start 0x0100 [0xB1] [] fun s => { s with a := 0x33, c := 0x0F, f := 0x13 }) =
      some (start 0x0100 [0xB1] [] fun s => { s with a := 0x3F, c := 0x0F, f := 0x16, pc := 0x0101, icount := 1 }) := by decide

theorem test_V25_ora :
    after (start 0x0100 [0xB6] [(0x3000, 0x80)] fun s => { s with a := 0x01, h := 0x30, l := 0x00 }) =
      some (start 0x0100 [0xB6] [(0x3000, 0x80)] fun s => { s with a := 0x81, h := 0x30, l := 0x00, f := 0x86, pc := 0x0101, icount := 1 }) := by decide

theorem test_V27_cmp :
    after (start 0x0100 [0xBB] [] fun s => { s with a := 0x02, e := 0x05 }) =
      some (start 0x0100 [0xBB] [] fun s => { s with a := 0x02, e := 0x05, f := 0x83, pc := 0x0101, icount := 1 }) := by decide

theorem test_V29_cmp :
    after (start 0x0100 [0xBE] [(0x3000, 0x7F)] fun s => { s with a := 0x80, h := 0x30, l := 0x00 }) =
      some (start 0x0100 [0xBE] [(0x3000, 0x7F)] fun s => { s with a := 0x80, h := 0x30, l := 0x00, pc := 0x0101, icount := 1 }) := by decide

theorem test_V132_rz :
    after (start 0x0100 [0xC8] [(0x23FE, 0x03), (0x23FF, 0x01)] fun s => { s with f := 0x46, sp := 0x23FE }) =
      some (start 0x0100 [0xC8] [(0x23FE, 0x03), (0x23FF, 0x01)] fun s => { s with f := 0x46, sp := 0x2400, pc := 0x0103, icount := 1 }) := by decide

theorem test_V133_rz :
    after (start 0x0100 [0xC8] [(0x23FE, 0x03), (0x23FF, 0x01)] fun s => { s with f := 0x02, sp := 0x23FE }) =
      some (start 0x0100 [0xC8] [(0x23FE, 0x03), (0x23FF, 0x01)] fun s => { s with f := 0x02, sp := 0x23FE, pc := 0x0101, icount := 1 }) := by decide

theorem test_V134_rnc :
    after (start 0x0100 [0xD0] [(0x23FE, 0x03), (0x23FF, 0x01)] fun s => { s with f := 0x02, sp := 0x23FE }) =
      some (start 0x0100 [0xD0] [(0x23FE, 0x03), (0x23FF, 0x01)] fun s => { s with f := 0x02, sp := 0x2400, pc := 0x0103, icount := 1 }) := by decide

theorem test_V136_rpo :
    after (start 0x0100 [0xE0] [(0x23FE, 0x03), (0x23FF, 0x01)] fun s => { s with f := 0x02, sp := 0x23FE }) =
      some (start 0x0100 [0xE0] [(0x23FE, 0x03), (0x23FF, 0x01)] fun s => { s with f := 0x02, sp := 0x2400, pc := 0x0103, icount := 1 }) := by decide

theorem test_V135_rm :
    after (start 0x0100 [0xF8] [(0x23FE, 0x03), (0x23FF, 0x01)] fun s => { s with f := 0x02, sp := 0x23FE }) =
      some (start 0x0100 [0xF8] [(0x23FE, 0x03), (0x23FF, 0x01)] fun s => { s with f := 0x02, sp := 0x23FE, pc := 0x0101, icount := 1 }) := by decide

theorem test_V112_jnz :
    after (start 0x0100 [0xC2, 0x34, 0x12] [] fun s => { s with f := 0x02 }) =
      some (start 0x0100 [0xC2, 0x34, 0x12] [] fun s => { s with f := 0x02, pc := 0x1234, icount := 1 }) := by decide

theorem test_V113_jnz :
    after (start 0x0100 [0xC2, 0x34, 0x12] [] fun s => { s with f := 0x46 }) =
      some (start 0x0100 [0xC2, 0x34, 0x12] [] fun s => { s with f := 0x46, pc := 0x0103, icount := 1 }) := by decide

theorem test_V114_jz :
    after (start 0x0100 [0xCA, 0x00, 0x20] [] fun s => { s with f := 0x46 }) =
      some (start 0x0100 [0xCA, 0x00, 0x20] [] fun s => { s with f := 0x46, pc := 0x2000, icount := 1 }) := by decide

theorem test_V115_jnc :
    after (start 0x0100 [0xD2, 0x00, 0x20] [] fun s => { s with f := 0x03 }) =
      some (start 0x0100 [0xD2, 0x00, 0x20] [] fun s => { s with f := 0x03, pc := 0x0103, icount := 1 }) := by decide

theorem test_V116_jc :
    after (start 0x0100 [0xDA, 0x00, 0x20] [] fun s => { s with f := 0x02 }) =
      some (start 0x0100 [0xDA, 0x00, 0x20] [] fun s => { s with f := 0x02, pc := 0x0103, icount := 1 }) := by decide

theorem test_V117_jc :
    after (start 0x0100 [0xDA, 0x00, 0x20] [] fun s => { s with f := 0x03 }) =
      some (start 0x0100 [0xDA, 0x00, 0x20] [] fun s => { s with f := 0x03, pc := 0x2000, icount := 1 }) := by decide

theorem test_V118_jpo :
    after (start 0x0100 [0xE2, 0x00, 0x20] [] fun s => { s with f := 0x02 }) =
      some (start 0x0100 [0xE2, 0x00, 0x20] [] fun s => { s with f := 0x02, pc := 0x2000, icount := 1 }) := by decide

theorem test_V119_jpe :
    after (start 0x0100 [0xEA, 0x00, 0x20] [] fun s => { s with f := 0x06 }) =
      some (start 0x0100 [0xEA, 0x00, 0x20] [] fun s => { s with f := 0x06, pc := 0x2000, icount := 1 }) := by decide

theorem test_V120_jp :
    after (start 0x0100 [0xF2, 0x00, 0x20] [] fun s => { s with f := 0x82 }) =
      some (start 0x0100 [0xF2, 0x00, 0x20] [] fun s => { s with f := 0x82, pc := 0x0103, icount := 1 }) := by decide

theorem test_V121_jm :
    after (start 0x0100 [0xFA, 0x00, 0x20] [] fun s => { s with f := 0x82 }) =
      some (start 0x0100 [0xFA, 0x00, 0x20] [] fun s => { s with f := 0x82, pc := 0x2000, icount := 1 }) := by decide

theorem test_V127_cz :
    after (start 0x0100 [0xCC, 0x00, 0x20] [] fun s => { s with f := 0x46, sp := 0x2400 }) =
      some (start 0x0100 [0xCC, 0x00, 0x20] [(0x23FE, 0x03), (0x23FF, 0x01)] fun s => { s with f := 0x46, sp := 0x23FE, pc := 0x2000, icount := 1 }) := by decide

theorem test_V125_cnc :
    after (start 0x0100 [0xD4, 0x00, 0x20] [] fun s => { s with f := 0x02, sp := 0x2400 }) =
      some (start 0x0100 [0xD4, 0x00, 0x20] [(0x23FE, 0x03), (0x23FF, 0x01)] fun s => { s with f := 0x02, sp := 0x23FE, pc := 0x2000, icount := 1 }) := by decide

theorem test_V126_cnc :
    after (start 0x0100 [0xD4, 0x00, 0x20] [] fun s => { s with f := 0x03, sp := 0x2400 }) =
      some (start 0x0100 [0xD4, 0x00, 0x20] [] fun s => { s with f := 0x03, sp := 0x2400, pc := 0x0103, icount := 1 }) := by decide

theorem test_V129_cpe :
    after (start 0x0100 [0xEC, 0x00, 0x20] [] fun s => { s with f := 0x06, sp := 0x2400 }) =
      some (start 0x0100 [0xEC, 0x00, 0x20] [(0x23FE, 0x03), (0x23FF, 0x01)] fun s => { s with f := 0x06, sp := 0x23FE, pc := 0x2000, icount := 1 }) := by decide

theorem test_V128_cm :
    after (start 0x0100 [0xFC, 0x00, 0x20] [] fun s => { s with f := 0x02, sp := 0x2400 }) =
      some (start 0x0100 [0xFC, 0x00, 0x20] [] fun s => { s with f := 0x02, sp := 0x2400, pc := 0x0103, icount := 1 }) := by decide

theorem test_V111_jmp :
    after (start 0x0100 [0xC3, 0x00, 0x3E] [] fun s => s) =
      some (start 0x0100 [0xC3, 0x00, 0x3E] [] fun s => { s with pc := 0x3E00, icount := 1 }) := by decide

theorem test_V122_jmp :
    after (start 0xFFFE [0xC3, 0x00, 0x00] [] fun s => s) =
      some (start 0xFFFE [0xC3, 0x00, 0x00] [] fun s => { s with pc := 0x0000, icount := 1 }) := by decide

theorem test_V124_call :
    after (start 0x0100 [0xCD, 0x00, 0x20] [] fun s => { s with sp := 0x0001 }) =
      some (start 0x0100 [0xCD, 0x00, 0x20] [(0x0000, 0x01), (0xFFFF, 0x03)] fun s => { s with sp := 0xFFFF, pc := 0x2000, icount := 1 }) := by decide

theorem test_V171_call :
    after (start 0x0200 [0xCD, 0x00, 0x30] [] fun s => { s with sp := 0x0080, cfg := { defaultConfig with romBoundary := 0x0100 } }) =
      some (start 0x0200 [0xCD, 0x00, 0x30] [] fun s => { s with sp := 0x007E, cfg := { defaultConfig with romBoundary := 0x0100 }, pc := 0x3000, icount := 1, halted := true, haltCause := .readOnlyViolation 0x007E 0x03 }) := by decide

theorem test_V131_ret :
    after (start 0x0100 [0xC9] [(0xFFFF, 0x34), (0x0000, 0x12)] fun s => { s with sp := 0xFFFF }) =
      some (start 0x0100 [0xC9] [(0xFFFF, 0x34), (0x0000, 0x12)] fun s => { s with sp := 0x0001, pc := 0x1234, icount := 1 }) := by decide

theorem test_V138_rst :
    after (start 0xFFFF [0xC7] [] fun s => { s with sp := 0x2400 }) =
      some (start 0xFFFF [0xC7] [] fun s => { s with sp := 0x23FE, pc := 0x0000, icount := 1 }) := by decide

theorem test_V139_rst :
    after (start 0x0100 [0xFF] [] fun s => { s with sp := 0x2400 }) =
      some (start 0x0100 [0xFF] [(0x23FE, 0x01), (0x23FF, 0x01)] fun s => { s with sp := 0x23FE, pc := 0x0038, icount := 1 }) := by decide

theorem test_V140_pchl :
    after (start 0x0100 [0xE9] [] fun s => { s with h := 0x41, l := 0x3E }) =
      some (start 0x0100 [0xE9] [] fun s => { s with h := 0x41, l := 0x3E, pc := 0x413E, icount := 1 }) := by decide

theorem test_V142_popB :
    after (start 0x0100 [0xC1] [(0xFFFF, 0x34), (0x0000, 0x12)] fun s => { s with sp := 0xFFFF }) =
      some (start 0x0100 [0xC1] [(0xFFFF, 0x34), (0x0000, 0x12)] fun s => { s with b := 0x12, c := 0x34, sp := 0x0001, pc := 0x0101, icount := 1 }) := by decide

theorem test_V141_popH :
    after (start 0x0100 [0xE1] [(0x1239, 0x3D), (0x123A, 0x93)] fun s => { s with sp := 0x1239 }) =
      some (start 0x0100 [0xE1] [(0x1239, 0x3D), (0x123A, 0x93)] fun s => { s with h := 0x93, l := 0x3D, sp := 0x123B, pc := 0x0101, icount := 1 }) := by decide

theorem test_V143_popPsw :
    after (start 0x0100 [0xF1] [(0x2C00, 0xC3), (0x2C01, 0xFF)] fun s => { s with sp := 0x2C00 }) =
      some (start 0x0100 [0xF1] [(0x2C00, 0xC3), (0x2C01, 0xFF)] fun s => { s with a := 0xFF, f := 0xC3, sp := 0x2C02, pc := 0x0101, icount := 1 }) := by decide

theorem test_V144_popPsw :
    after (start 0x0100 [0xF1] [(0x2C00, 0xFF), (0x2C01, 0x12)] fun s => { s with sp := 0x2C00 }) =
      some (start 0x0100 [0xF1] [(0x2C00, 0xFF), (0x2C01, 0x12)] fun s => { s with a := 0x12, f := 0xD7, sp := 0x2C02, pc := 0x0101, icount := 1 }) := by decide

theorem test_V147_pushB :
    after (start 0x0100 [0xC5] [] fun s => { s with b := 0x12, c := 0x34, sp := 0x0000 }) =
      some (start 0x0100 [0xC5] [(0xFFFE, 0x34), (0xFFFF, 0x12)] fun s => { s with b := 0x12, c := 0x34, sp := 0xFFFE, pc := 0x0101, icount := 1 }) := by decide

theorem test_V170_pushB :
    after (start 0x0200 [0xC5] [] fun s => { s with b := 0x12, c := 0x34, sp := 0x0101, cfg := { defaultConfig with romBoundary := 0x0100 } }) =
      some (start 0x0200 [0xC5] [(0x0100, 0x12)] fun s => { s with b := 0x12, c := 0x34, sp := 0x00FF, cfg := { defaultConfig with romBoundary := 0x0100 }, pc := 0x0201, icount := 1, halted := true, haltCause := .readOnlyViolation 0x00FF 0x34 }) := by decide

theorem test_V146_pushD :
    after (start 0x0100 [0xD5] [] fun s => { s with d := 0x8F, e := 0x9D, sp := 0x3A2C }) =
      some (start 0x0100 [0xD5] [(0x3A2A, 0x9D), (0x3A2B, 0x8F)] fun s => { s with d := 0x8F, e := 0x9D, sp := 0x3A2A, pc := 0x0101, icount := 1 }) := by decide

theorem test_V149_pushH :
    after (start 0x0100 [0xE5] [] fun s => { s with h := 0xAA, l := 0xBB, sp := 0x0001 }) =
      some (start 0x0100 [0xE5] [(0x0000, 0xAA), (0xFFFF, 0xBB)] fun s => { s with h := 0xAA, l := 0xBB, sp := 0xFFFF, pc := 0x0101, icount := 1 }) := by decide

theorem test_V148_pushPsw :
    after (start 0x0100 [0xF5] [] fun s => { s with a := 0x1F, f := 0x47, sp := 0x502A }) =
      some (start 0x0100 [0xF5] [(0x5028, 0x47), (0x5029, 0x1F)] fun s => { s with a := 0x1F, f := 0x47, sp := 0x5028, pc := 0x0101, icount := 1 }) := by decide

theorem test_V150_xthl :
    after (start 0x0100 [0xE3] [(0x10AD, 0xF0), (0x10AE, 0x0D)] fun s => { s with h := 0x0B, l := 0x3C, sp := 0x10AD }) =
      some (start 0x0100 [0xE3] [(0x10AD, 0x3C), (0x10AE, 0x0B)] fun s => { s with h := 0x0D, l := 0xF0, sp := 0x10AD, pc := 0x0101, icount := 1 }) := by decide

theorem test_V174_xthl :
    after (start 0x0200 [0xE3] [(0x0010, 0xF0), (0x0011, 0x0D)] fun s => { s with h := 0x0B, l := 0x3C, sp := 0x0010, cfg := { defaultConfig with romBoundary := 0x0100 } }) =
      some (start 0x0200 [0xE3] [(0x0010, 0xF0), (0x0011, 0x0D)] fun s => { s with h := 0x0D, l := 0xF0, sp := 0x0010, cfg := { defaultConfig with romBoundary := 0x0100 }, pc := 0x0201, icount := 1, halted := true, haltCause := .readOnlyViolation 0x0010 0x3C }) := by decide

theorem test_V151_sphl :
    after (start 0x0100 [0xF9] [] fun s => { s with h := 0x50, l := 0x6C }) =
      some (start 0x0100 [0xF9] [] fun s => { s with h := 0x50, l := 0x6C, sp := 0x506C, pc := 0x0101, icount := 1 }) := by decide

theorem test_V152_xchg :
    after (start 0x0100 [0xEB] [] fun s => { s with d := 0x33, e := 0x55, h := 0x00, l := 0xFF }) =
      some (start 0x0100 [0xEB] [] fun s => { s with d := 0x00, e := 0xFF, h := 0x33, l := 0x55, pc := 0x0101, icount := 1 }) := by decide

theorem test_V30_adi :
    after (start 0x0100 [0xC6, 0x42] [] fun s => { s with a := 0x14 }) =
      some (start 0x0100 [0xC6, 0x42] [] fun s => { s with a := 0x56, f := 0x06, pc := 0x0102, icount := 1 }) := by decide

theorem test_V31_adi :
    after (start 0x0100 [0xC6, 0x01] [] fun s => { s with a := 0xFF }) =
      some (start 0x0100 [0xC6, 0x01] [] fun s => { s with a := 0x00, f := 0x57, pc := 0x0102, icount := 1 }) := by decide

theorem test_V32_aci :
    after (start 0x0100 [0xCE, 0x42] [] fun s => { s with a := 0x14, f := 0x03 }) =
      some (start 0x0100 [0xCE, 0x42] [] fun s => { s with a := 0x57, f := 0x02, pc := 0x0102, icount := 1 }) := by decide

theorem test_V33_aci :
    after (start 0x0100 [0xCE, 0xBE] [] fun s => { s with a := 0x56 }) =
      some (start 0x0100 [0xCE, 0xBE] [] fun s => { s with a := 0x14, f := 0x17, pc := 0x0102, icount := 1 }) := by decide

theorem test_V34_sui :
    after (start 0x0100 [0xD6, 0x01] [] fun s => { s with a := 0x00 }) =
      some (start 0x0100 [0xD6, 0x01] [] fun s => { s with a := 0xFF, f := 0x87, pc := 0x0102, icount := 1 }) := by decide

theorem test_V35_sui :
    after (start 0x0100 [0xD6, 0x10] [] fun s => { s with a := 0x20 }) =
      some (start 0x0100 [0xD6, 0x10] [] fun s => { s with a := 0x10, f := 0x12, pc := 0x0102, icount := 1 }) := by decide

theorem test_V36_sbi :
    after (start 0x0100 [0xDE, 0x01] [] fun s => { s with a := 0x00, f := 0x03 }) =
      some (start 0x0100 [0xDE, 0x01] [] fun s => { s with a := 0xFE, f := 0x83, pc := 0x0102, icount := 1 }) := by decide

theorem test_V37_sbi :
    after (start 0x0100 [0xDE, 0x01] [] fun s => { s with a := 0x00 }) =
      some (start 0x0100 [0xDE, 0x01] [] fun s => { s with a := 0xFF, f := 0x87, pc := 0x0102, icount := 1 }) := by decide

theorem test_V38_ani :
    after (start 0x0100 [0xE6, 0x0F] [] fun s => { s with a := 0x3A, f := 0x03 }) =
      some (start 0x0100 [0xE6, 0x0F] [] fun s => { s with a := 0x0A, f := 0x06, pc := 0x0102, icount := 1 }) := by decide

theorem test_V39_xri :
    after (start 0x0100 [0xEE, 0x81] [] fun s => { s with a := 0x3B, f := 0x13 }) =
      some (start 0x0100 [0xEE, 0x81] [] fun s => { s with a := 0xBA, f := 0x82, pc := 0x0102, icount := 1 }) := by decide

theorem test_V40_ori :
    after (start 0x0100 [0xF6, 0x0F] [] fun s => { s with a := 0xB5, f := 0x03 }) =
      some (start 0x0100 [0xF6, 0x0F] [] fun s => { s with a := 0xBF, f := 0x82, pc := 0x0102, icount := 1 }) := by decide

theorem test_V41_cpi :
    after (start 0x0100 [0xFE, 0x40] [] fun s => { s with a := 0x4A }) =
      some (start 0x0100 [0xFE, 0x40] [] fun s => { s with a := 0x4A, f := 0x16, pc := 0x0102, icount := 1 }) := by decide

theorem test_V43_cpi :
    after (start 0x0100 [0xFE, 0x00] [] fun s => { s with a := 0x00, f := 0x03 }) =
      some (start 0x0100 [0xFE, 0x00] [] fun s => { s with a := 0x00, f := 0x56, pc := 0x0102, icount := 1 }) := by decide

theorem test_V154_inPort :
    after (start 0x0100 [0xDB, 0x10] [] fun s => { s with a := 0x55, cfg := { defaultConfig with inDev := [⟨0x10, 5⟩] }, inputs := [.byte 0x41] }) =
      some (start 0x0100 [0xDB, 0x10] [] fun s => { s with a := 0x41, cfg := { defaultConfig with inDev := [⟨0x10, 5⟩] }, pc := 0x0102, icount := 1 }) := by decide

theorem test_V155_inPort :
    after (start 0x0100 [0xDB, 0x10] [] fun s => { s with a := 0x55, cfg := { defaultConfig with inDev := [⟨0x10, 5⟩] }, inputs := [.noData] }) =
      some (start 0x0100 [0xDB, 0x10] [] fun s => { s with a := 0x55, cfg := { defaultConfig with inDev := [⟨0x10, 5⟩] }, pc := 0x0102, icount := 1, halted := true, haltCause := .endOfInput 0x10 }) := by decide

theorem test_V157_outPort :
    after (start 0x0100 [0xD3, 0x01] [] fun s => { s with a := 0x41, cfg := { defaultConfig with outDev := [⟨0x01, 6⟩] } }) =
      some (start 0x0100 [0xD3, 0x01] [] fun s => { s with a := 0x41, cfg := { defaultConfig with outDev := [⟨0x01, 6⟩] }, pc := 0x0102, icount := 1, events := [.portOut 6 0x01 0x41] }) := by decide

theorem test_V158_outPort :
    after (start 0x0100 [0xD3, 0x01] [] fun s => { s with a := 0x41 }) =
      some (start 0x0100 [0xD3, 0x01] [] fun s => { s with a := 0x41, pc := 0x0102, icount := 1 }) := by decide

theorem test_V159_unmatched08 :
    after (start 0x0100 [0x08, 0x34, 0x12] [] fun s => { s with a := 0x11, f := 0xD7, sp := 0x2400 }) =
      some (start 0x0100 [0x08, 0x34, 0x12] [] fun s => { s with a := 0x11, f := 0xD7, sp := 0x2400, pc := 0x0101, icount := 1, halted := true, haltCause := .unimplementedOpcode 0x0100 0x08 }) := by decide

theorem test_V160_unmatched10 :
    after (start 0x0100 [0x10, 0x34, 0x12] [] fun s => { s with a := 0x11, f := 0xD7, sp := 0x2400 }) =
      some (start 0x0100 [0x10, 0x34, 0x12] [] fun s => { s with a := 0x11, f := 0xD7, sp := 0x2400, pc := 0x0101, icount := 1, halted := true, haltCause := .unimplementedOpcode 0x0100 0x10 }) := by decide

theorem test_V161_unmatched38 :
    after (start 0x0100 [0x38, 0x34, 0x12] [] fun s => { s with a := 0x11, f := 0xD7, sp := 0x2400 }) =
      some (start 0x0100 [0x38, 0x34, 0x12] [] fun s => { s with a := 0x11, f := 0xD7, sp := 0x2400, pc := 0x0101, icount := 1, halted := true, haltCause := .unimplementedOpcode 0x0100 0x38 }) := by decide

theorem test_V162_unmatchedCB :
    after (start 0x0100 [0xCB, 0x34, 0x12] [] fun s => { s with a := 0x11, f := 0xD7, sp := 0x2400 }) =
      some (start 0x0100 [0xCB, 0x34, 0x12] [] fun s => { s with a := 0x11, f := 0xD7, sp := 0x2400, pc := 0x0101, icount := 1, halted := true, haltCause := .unimplementedOpcode 0x0100 0xCB }) := by decide

theorem test_V163_unmatchedD9 :
    after (start 0x0100 [0xD9, 0x34, 0x12] [] fun s => { s with a := 0x11, f := 0xD7, sp := 0x2400 }) =
      some (start 0x0100 [0xD9, 0x34, 0x12] [] fun s => { s with a := 0x11, f := 0xD7, sp := 0x2400, pc := 0x0101, icount := 1, halted := true, haltCause := .unimplementedOpcode 0x0100 0xD9 }) := by decide

theorem test_V164_unmatchedDD :
    after (start 0x0100 [0xDD, 0x34, 0x12] [] fun s => { s with a := 0x11, f := 0xD7, sp := 0x2400 }) =
      some (start 0x0100 [0xDD, 0x34, 0x12] [] fun s => { s with a := 0x11, f := 0xD7, sp := 0x2400, pc := 0x0101, icount := 1, halted := true, haltCause := .unimplementedOpcode 0x0100 0xDD }) := by decide

theorem test_V165_unmatchedED :
    after (start 0x0100 [0xED, 0x34, 0x12] [] fun s => { s with a := 0x11, f := 0xD7, sp := 0x2400 }) =
      some (start 0x0100 [0xED, 0x34, 0x12] [] fun s => { s with a := 0x11, f := 0xD7, sp := 0x2400, pc := 0x0101, icount := 1, halted := true, haltCause := .unimplementedOpcode 0x0100 0xED }) := by decide

theorem test_V166_unmatchedFD :
    after (start 0x0100 [0xFD, 0x34, 0x12] [] fun s => { s with a := 0x11, f := 0xD7, sp := 0x2400 }) =
      some (start 0x0100 [0xFD, 0x34, 0x12] [] fun s => { s with a := 0x11, f := 0xD7, sp := 0x2400, pc := 0x0101, icount := 1, halted := true, haltCause := .unimplementedOpcode 0x0100 0xFD }) := by decide

theorem test_V167_unmatchedF3 :
    after (start 0x0100 [0xF3, 0x34, 0x12] [] fun s => { s with a := 0x11, f := 0xD7, sp := 0x2400 }) =
      some (start 0x0100 [0xF3, 0x34, 0x12] [] fun s => { s with a := 0x11, f := 0xD7, sp := 0x2400, pc := 0x0101, icount := 1, halted := true, haltCause := .unimplementedOpcode 0x0100 0xF3 }) := by decide

theorem test_V168_unmatchedFB :
    after (start 0x0100 [0xFB, 0x34, 0x12] [] fun s => { s with a := 0x11, f := 0xD7, sp := 0x2400 }) =
      some (start 0x0100 [0xFB, 0x34, 0x12] [] fun s => { s with a := 0x11, f := 0xD7, sp := 0x2400, pc := 0x0101, icount := 1, halted := true, haltCause := .unimplementedOpcode 0x0100 0xFB }) := by decide

/-- A watched PC fires the breakpoint hook, and the trace hook to the sink the host enabled (60_exceptions.md R259, R262). -/
theorem test_watched_pc_fires_hooks :
    (next? (runLoop 1 (enableTrace 4 (setBreakpoint 0x0100 (start 0x0100 [0x00] [] id))))).map
      (fun t => (t.hookLog, t.pc, t.icount)) = some ([.breakpoint 0x0100, .trace 4 0x0100], 0x0101, 1) := by decide

/-- A pop whose first byte lies outside the valid stack region: it halts on that byte, takes a free value for it, and SP moves. -/
theorem test_pop_stack_fault :
    (after (start 0x0100 [0xC1] [(0x2000, 0x12)] fun s => { s with
        sp := 0x1FFF, cfg := { defaultConfig with stackCheck := true, stackValid := [⟨0x2000, 0x2FFF⟩] } })).map
      (fun t => (t.halted, t.haltCause, t.sp, t.freeCount)) = some (true, .stackFault 0x1FFF, 0x2001, 1) := by decide

/-- A push whose upper byte lies outside the region: the lower byte is stored, the upper is not. -/
theorem test_push_stack_fault :
    (after (start 0x0100 [0xC5] [] fun s => { s with
        b := 0x12, c := 0x34, sp := 0x2001, cfg := { defaultConfig with stackCheck := true, stackValid := [⟨0x1000, 0x1FFF⟩] } })).map
      (fun t => (t.halted, t.haltCause, t.sp, memRead t 0x1FFF, memRead t 0x2000)) =
        some (true, .stackFault 0x2000, 0x1FFF, 0x34, 0) := by decide

/-- The first step after the host stores a table word at PC runs that instruction. -/
theorem test_withFetchWord : next? (step (State.reset.withFetchWord 24 0x123421)) =
    some { State.reset.withFetchWord 24 0x123421 with h := 0x12, l := 0x34, pc := 3, icount := 1 } := by decide

/-! ## Witnesses: for each obligation with hypotheses, a state and operands that meet them -/

/-- An answer that `next?` finds is a next state. -/
theorem answers {o : Result} {t : State} (h : next? o = some t) : o = .next t := by
  cases o <;> simp_all [next?]

/-- There is a next state. -/
theorem some_answer {o : Result} (h : (next? o).isSome = true) : ∃ t, o = .next t := by
  cases o <;> simp_all [next?]

/-- A state with code at 0x0100, read-only memory below 0x0100, a mapped range, a mapped port of each kind and one answer. -/
def busy (bytes : List Byte) : State :=
  start 0x0100 bytes [(0x2400, 0x55)] fun s => { s with
    a := 0x9C, h := 0x24, l := 0x00, sp := 0x2400,
    cfg := { defaultConfig with romBoundary := 0x0100, mmio := [⟨0x8000, 0x80FF, 7⟩], inDev := [⟨0x10, 5⟩], outDev := [⟨0x01, 6⟩] },
    inputs := [.byte 0x41] }

theorem witness_DecodeOfEncodeIsTheInstruction : (Instr.mov .m (.reg .l)).wellFormed = true := by decide

theorem witness_StepRunsTheDecodedInstruction :
    let s := busy [0x21, 0x34, 0x12]
    s.halted = false ∧ (Instr.lxi .hl 0x1234).wellFormed = true ∧
      decodeBytes [memRead s s.pc, memRead s (s.pc + 1), memRead s (s.pc + 2)] = .ok (.lxi .hl 0x1234, []) :=
  ⟨by decide, by decide, by decide⟩

theorem witness_EveryStepCompletesUnlessHalted :
    (busy [0x00]).halted = false ∧ (raise .hltInstruction (busy [0x00])).halted = true := by decide

theorem witness_StepKeepsTheInvariant : (busy [0x34]).Inv ∧ ∃ t, step (busy [0x34]) = .next t :=
  ⟨⟨by decide, by unfold fixedBits; decide, by decide, by decide, by unfold disjointRanges; decide, by decide⟩,
    some_answer (by decide)⟩

theorem witness_ReadOnlyBoundaryProtects :
    (∃ t, step (busy [0x00]) = .next t) ∧ (0x00FF : Word).toNat < (busy [0x00]).cfg.romBoundary ∧
      (busy [0x00]).cfg.romBoundary ≤ (0x0100 : Word).toNat ∧ State.reset.cfg.romBoundary = 0 ∧
      { defaultConfig with romBoundary := 0x10000 }.romBoundary = 0x10000 ∧ (0x10000 : Nat) ≤ 0x10000 :=
  ⟨some_answer (by decide), by decide, by decide, by decide, by decide, by decide⟩

theorem witness_NoInstructionResumesOrRecauses :
    let s := raise (.endOfInput 3) (busy [])
    (∃ t, exec .hlt s = .next t) ∧ s.halted = true ∧ s.haltCause ≠ .none := ⟨some_answer (by decide), by decide, by decide⟩

/-- Each cause is reached: no cause, HLT, an unmatched byte, a stack byte just outside the region, a store just below the boundary,
the end of the input. -/
theorem witness_EachHaltCauseHasItsInstructions :
    let s := busy []
    let k := { s with sp := 0x2400, cfg := { s.cfg with stackCheck := true, stackValid := [⟨0x2401, 0xFFFF⟩] } }
    let r := { s with a := 0x11 }
    let e := { s with inputs := [.noData] }
    s.halted = false ∧ s.haltCause = .none ∧
    (next? (exec .nop s)).map State.haltCause = some .none ∧
    (next? (exec .hlt s)).map State.haltCause = some .hltInstruction ∧
    (next? (exec .unmatchedCB s)).map State.haltCause = some (.unimplementedOpcode 0x00FF 0xCB) ∧
    (next? (exec .popB k)).map State.haltCause = some (.stackFault 0x2400) ∧
    (next? (exec (.sta 0x00FF) r)).map State.haltCause = some (.readOnlyViolation 0x00FF 0x11) ∧
    (next? (exec (.inPort 0x10) e)).map State.haltCause = some (.endOfInput 0x10) := by decide

theorem witness_FullStackRegionNeverFaults :
    let s := busy [0xC5]
    let k := { s with cfg := { s.cfg with stackCheck := true } }
    s.cfg.stackCheck = false ∧ (∀ a : Word, ∃ r ∈ k.cfg.stackValid, r.first ≤ a ∧ a ≤ r.last) ∧ s.haltCause = .none ∧
      k.haltCause = .none ∧ (∃ t, step s = .next t) ∧ ∃ t, step k = .next t :=
  ⟨by decide, fun a => ⟨⟨0x0000, 0xFFFF⟩, by decide, by show (0x0000 : Word) ≤ a; bv_omega, by show a ≤ (0xFFFF : Word); bv_omega⟩, by decide, by decide,
    some_answer (by decide), some_answer (by decide)⟩

theorem witness_OnlyStoresChangeMemory :
    (∃ t, exec (.inr (.reg .b)) (busy []) = .next t) ∧ storesMemory (.inr (.reg .b)) = false := ⟨some_answer (by decide), by decide⟩

theorem witness_RegistersWrittenAsTabled : (∃ t, exec .xchg (busy []) = .next t) ∧ Reg.a ∉ writesRegs .xchg :=
  ⟨some_answer (by decide), by decide⟩

theorem witness_SpAndPcWrittenAsTabled :
    (∃ t, exec (.lxi .hl 1) (busy []) = .next t) ∧ writesSp (.lxi .hl 1) = false ∧ transfersControl (.lxi .hl 1) = false :=
  ⟨some_answer (by decide), by decide, by decide⟩

theorem witness_FlagsWrittenAsTabled :
    (∃ t, exec (.dad .bc) (busy []) = .next t) ∧ writesSZP (.dad .bc) = false ∧ writesAC (.dad .bc) = false ∧
      writesC (.inr .m) = false ∧ writesSZP .nop = false ∧ writesC .nop = false ∧ (∃ t, exec (.inr .m) (busy []) = .next t) ∧
      ∃ t, exec .nop (busy []) = .next t :=
  ⟨some_answer (by decide), by decide, by decide, by decide, by decide, by decide, some_answer (by decide), some_answer (by decide)⟩

/-- One event of each kind. -/
theorem witness_EventsAppendOnlyAsTabled :
    (next? (exec (.outPort 0x01) (busy []))).map State.events = some [.portOut 6 0x01 0x9C] ∧
    (next? (exec (.inPort 0x10) (busy []))).map State.events = some [.portIn 5 0x10 (busy []).view (.byte 0x41)] ∧
    (next? (exec (.sta 0x80FF) (busy []))).map State.events = some [.onWrite 7 0x80FF 0x00 0x9C] := by decide

theorem witness_DiagnosticsNeverAffectTheMachine :
    let s := busy [0xC9]
    SameButDiagnostics s { s with
      shadow := [⟨0x2400, 0x1234⟩], loggedPorts := [3], hookLog := [.breakpoint 7],
      cfg := { s.cfg with watch := [7], traceSink := some 4 } } ∧ ∃ t, step s = .next t :=
  ⟨rfl, some_answer (by decide)⟩

/-- The three bytes of the instruction, and the boundary itself. -/
theorem witness_FetchSeesTheStoredByte :
    let s := busy [0x00]
    s.cfg.romBoundary ≤ s.pc.toNat ∧ s.cfg.romBoundary ≤ (s.pc + 1).toNat ∧ s.cfg.romBoundary ≤ (s.pc + 2).toNat ∧
      s.cfg.romBoundary ≤ (0x0100 : Word).toNat := by decide

theorem witness_FlagRoutinesAsStated :
    (∃ t, exec (.inr .m) (busy []) = .next t) ∧ ∃ t, exec (.dcr (.reg .a)) (busy []) = .next t :=
  ⟨some_answer (by decide), some_answer (by decide)⟩

theorem witness_SubAfterAddRestoresA :
    (∃ t, exec (.adi 0xFF) (busy []) = .next t ∧ ∃ u, exec (.sui 0xFF) t = .next u) ∧ Sel.m ≠ .reg .a ∧
      ∃ t, exec (.add .m) (busy []) = .next t ∧ ∃ u, exec (.sub .m) t = .next u :=
  ⟨⟨_, rfl, _, rfl⟩, by decide, _, rfl, _, rfl⟩

theorem witness_NopOnlyAdvances :
    (busy [0x00]).halted = false ∧ memRead (busy [0x00]) (busy [0x00]).pc = 0x00 ∧ decode 0x00 0x34 0x12 = .nop := by decide

/-- Both bytes at the boundary itself and above it. -/
theorem witness_ShldAndLhldMoveHl :
    (busy []).cfg.romBoundary ≤ (0x0100 : Word).toNat ∧ (busy []).cfg.romBoundary ≤ ((0x0100 : Word) + 1).toNat ∧
      ∃ t, exec (.shld 0x0100) (busy []) = .next t ∧ ∃ u, exec (.lhld 0x0100) (t.setHl 0) = .next u :=
  ⟨by decide, by decide, _, rfl, _, rfl⟩

/-- 38 + 45 in packed decimal, and the largest sum. -/
theorem witness_DaaAfterAddAddsDecimal :
    let s := { busy [] with a := 0x38 }
    let k := { busy [] with a := 0x99 }
    s.a.toNat = 38 / 10 * 16 + 38 % 10 ∧ (0x45 : Byte).toNat = 45 / 10 * 16 + 45 % 10 ∧
      k.a.toNat = 99 / 10 * 16 + 99 % 10 ∧ (0x99 : Byte).toNat = 99 / 10 * 16 + 99 % 10 ∧
      (∃ t, exec (.adi 0x45) s = .next t ∧ ∃ u, exec .daa t = .next u) ∧
      ∃ t, exec (.adi 0x99) k = .next t ∧ ∃ u, exec .daa t = .next u :=
  ⟨by decide, by decide, by decide, by decide, ⟨_, rfl, _, rfl⟩, _, rfl, _, rfl⟩

/-- A stack at the boundary of read-only memory: SP - 2 is the boundary. -/
theorem witness_PopReturnsThePushedWord :
    let s := { busy [] with sp := 0x0102 }
    StackWritable s (s.sp - 2) ∧ StackWritable s (s.sp - 1) := by
  simp only [StackWritable, StackFaultAt]; decide

theorem witness_PswPushesAndPopsAAndF :
    let s := { busy [] with sp := 0x0102 }
    fixedBits s.f ∧ StackWritable s (s.sp - 2) ∧ StackWritable s (s.sp - 1) ∧
      ∃ t, exec .pushPsw s = .next t ∧ ∃ u, exec .popPsw { t with a := 0, f := 0xFF } = .next u :=
  ⟨by unfold fixedBits; decide, witness_PopReturnsThePushedWord.1, witness_PopReturnsThePushedWord.2, _, rfl, _, rfl⟩

theorem witness_JmpGoesToItsAddress :
    let s := busy [0xC3, 0x00, 0x01]
    s.halted = false ∧ memRead s s.pc = 0xC3 ∧ memRead s (s.pc + 1) = lo8 s.pc ∧ memRead s (s.pc + 2) = hi8 s.pc := by decide

/-- Each flag both set and clear, for the conditional jumps, calls and returns. -/
theorem witness_ConditionalJumps :
    flagZ 0x02 = false ∧ flagZ 0x46 = true ∧ flagC 0x02 = false ∧ flagC 0x03 = true ∧ flagP 0x02 = false ∧ flagP 0x06 = true ∧
      flagS 0x02 = false ∧ flagS 0x82 = true := by decide

theorem witness_ConditionalCalls : flagC { busy [] with f := 0x03 }.f = true ∧ ¬flagC (busy []).f = true := by decide

theorem witness_ConditionalReturns : flagS { busy [] with f := 0x82 }.f = true ∧ ¬flagS (busy []).f = true := by decide

/-- The shadow stack empty, matching, and not matching. -/
theorem witness_CallRstRetTransfer :
    (busy []).shadow = [] ∧
    (next? (exec .ret { busy [] with shadow := [⟨0x2400, 0x1234⟩] })).map State.shadow = some [] ∧
    (next? (exec .ret { busy [] with shadow := [⟨0x2402, 0x1234⟩] })).map State.shadow = some [⟨0x2402, 0x1234⟩] := by decide

theorem witness_RetAfterCallReturns :
    let s := { busy [] with sp := 0x0102 }
    StackWritable s (s.sp - 2) ∧ StackWritable s (s.sp - 1) ∧ ∃ t, exec (.call 0x3000) s = .next t ∧ ∃ u, exec .ret t = .next u :=
  ⟨witness_PopReturnsThePushedWord.1, witness_PopReturnsThePushedWord.2, _, rfl, _, rfl⟩

theorem witness_UnmappedPortsDoNotHalt :
    (∀ e ∈ (busy []).cfg.inDev, e.port ≠ 0x11) ∧ ∀ e ∈ (busy []).cfg.outDev, e.port ≠ 0x02 := by decide

theorem witness_OutDeliversAOrDropsIt :
    handlerOf (busy []).cfg.outDev 0x01 = some 6 ∧ handlerOf (busy []).cfg.outDev 0x02 = none := by decide

/-- A byte and `NO_DATA` as the next answer. -/
theorem witness_InTakesTheAnswer :
    handlerOf (busy []).cfg.inDev 0x10 = some 5 ∧
    (busy []).inputs = [.byte 0x41] ∧ (next? (exec (.inPort 0x10) (busy []))).map State.a = some 0x41 ∧
    (next? (exec (.inPort 0x10) { busy [] with inputs := [.noData] })).map (fun t => (t.a, t.haltCause)) =
      some (0x9C, .endOfInput 0x10) := by decide

theorem witness_UnmatchedBytesHalt :
    (busy [0xFB]).halted = false ∧ (busy [0xFB]).haltCause = .none ∧ memRead (busy [0xFB]) (busy [0xFB]).pc = 0xFB := by decide

theorem witness_RunEndsHaltedOrAtTheBudget : (busy [0x34]).Inv ∧ (raise .hltInstruction (busy [])).halted = true :=
  ⟨witness_StepKeepsTheInvariant.1, by decide⟩

/-- A range that begins where the registered one, 0x8000 to 0x80FF, ends. -/
theorem disjoint_next_range :
    ∀ r ∈ (busy [0x34]).cfg.mmio, ∀ a : Word, r.first ≤ a → a ≤ r.last → (0x8100 : Word) ≤ a → ¬a ≤ (0x81FF : Word) := by
  intro r hr a h1 h2 h3
  have : r = ⟨0x8000, 0x80FF, 7⟩ := List.mem_singleton.mp hr
  subst this
  bv_omega

theorem witness_HostOperationsKeepTheInvariant :
    (busy [0x34]).Inv ∧ ((0xFFFF : Nat) < 0x10000 ∧ (255 : Nat) < 256) ∧ (∃ t, loadByte 0xFFFF 255 (busy [0x34]) = .next t) ∧
      (∀ r ∈ (busy [0x34]).cfg.mmio, ∀ a : Word, r.first ≤ a → a ≤ r.last → (0x8100 : Word) ≤ a → ¬a ≤ (0x81FF : Word)) ∧
      (∃ t, setReadOnlyBoundary 0x10000 (busy [0x34]) = .next t) ∧
      (∃ t, setMemoryMappedDevice 9 0x8100 0x81FF (busy [0x34]) = .next t) ∧
      (⟨0x8000, 0x80FF, 7⟩ : MmioRange) ∈ (busy []).cfg.mmio ∧ (0x8000 : Word) ≤ 0x80FF ∧ (0x80FF : Word) ≤ 0x80FF ∧
      (0x80FF : Word) ≤ 0x9000 ∧ Memory.wf (busy []).mem = true ∧ (busy []).cfg.romBoundary ≤ memSize ∧
      disjointRanges (busy []).cfg.mmio ∧ (busy []).loggedPorts.Nodup :=
  ⟨witness_StepKeepsTheInvariant.1, by decide, some_answer (by decide), disjoint_next_range, some_answer (by decide),
    some_answer (by decide), by decide,
    by decide, by decide, by decide, by decide, by decide, by unfold disjointRanges; decide, by decide⟩

end Sys2Proof.Tests
end

section
/-! SUPPORT. The record of events (spec/00_scope.md R8): what each operation and each instruction may append to it. The instructions
fall into three kinds: those that store append notifications, IN and OUT append their own port event, all others append nothing. -/

namespace Sys2Proof.Machine

/-- `t`'s record of events is that of `s` followed by events that all satisfy `ok`. -/
def Appends (ok : Event → Prop) (s t : State) : Prop := ∃ es, t.events = s.events ++ es ∧ ∀ e ∈ es, ok e

/-- An event that only a store makes (20_memory.md R44). -/
def Event.IsNotification (e : Event) : Prop := ∃ device a old new, e = .onWrite device a old new

section
variable {ok ok' : Event → Prop} {s t u : State}

theorem Appends.of_events_eq (h : t.events = s.events) : Appends ok s t := ⟨[], by simp [h], by simp⟩

theorem Appends.trans (h : Appends ok s t) (h' : Appends ok t u) : Appends ok s u := by
  obtain ⟨es, he, hes⟩ := h
  obtain ⟨es', he', hes'⟩ := h'
  refine ⟨es ++ es', by rw [he', he, List.append_assoc], fun e h => ?_⟩
  exact (List.mem_append.mp h).elim (hes e) (hes' e)

theorem Appends.mono (h : Appends ok s t) (hok : ∀ e, ok e → ok' e) : Appends ok' s t :=
  h.imp fun _ ⟨he, hes⟩ => ⟨he, fun e hm => hok e (hes e hm)⟩

/-- A later change that leaves the record alone. -/
theorem Appends.then_keep (h : Appends ok s t) (hu : u.events = t.events) : Appends ok s u :=
  h.trans (.of_events_eq hu)

theorem Appends.of_record {e : Event} (h : ok e) : Appends ok s (record e s) := ⟨[e], rfl, by simpa using h⟩

end

section
variable (s : State)

/-! ## Stores append notifications only -/

theorem memWrite_appends (a : Word) (v : Byte) : Appends Event.IsNotification s (memWrite a v s) := by
  unfold memWrite
  split
  · exact .of_events_eq (raise_events _ _)
  · unfold notify
    split
    · exact Appends.trans (.of_events_eq (State.setMem_events _ _)) (.of_record ⟨_, _, _, _, rfl⟩)
    · exact .of_events_eq (State.setMem_events _ _)

theorem memWrite16_appends (a w : Word) : Appends Event.IsNotification s (memWrite16 a w s) :=
  (memWrite_appends _ _ _).trans (memWrite_appends _ _ _)

theorem stackStore_appends (a : Word) (v : Byte) : Appends Event.IsNotification s (stackStore a v s) := by
  unfold stackStore
  split
  · exact .of_events_eq (raise_events _ _)
  · exact memWrite_appends _ _ _

theorem push16_appends (w : Word) : Appends Event.IsNotification s (push16 w s) :=
  (Appends.of_events_eq (State.setSp_events _ _)).trans ((stackStore_appends _ _ _).trans (stackStore_appends _ _ _))

theorem callTo_appends (w : Word) : Appends Event.IsNotification s (callTo w s) :=
  (push16_appends s s.pc).then_keep (by simp [callTo])

theorem whenCond_callTo_appends (ccc : BitVec 3) (w : Word) :
    Appends Event.IsNotification s (whenCond ccc (callTo w) s) := by
  unfold whenCond
  split
  · exact callTo_appends s w
  · exact .of_events_eq rfl

theorem setOpnd_appends (o : Sel) (v : Byte) : Appends Event.IsNotification s (setOpnd o v s) := by
  cases o
  · exact .of_events_eq (State.setReg_events _ _ _)
  · exact memWrite_appends _ _ _

/-- Writing a selector that is a register appends nothing. -/
theorem setOpnd_events_of_selRegs {o : Sel} (h : decide (selRegs o = []) = false) (v : Byte) :
    (setOpnd o v s).events = s.events := by
  cases o
  · exact State.setReg_events _ _ _
  · cases h

/-! ## The ports -/

/-- IN appends at most its own read, seen by the handler at the state IN starts from (44_io.md R230). -/
theorem portIn_appends (p : Byte) :
    Appends (fun e => ∃ dev x, e = .portIn dev p s.view x) s (portIn p s).2 := by
  unfold portIn
  split
  · exact (Appends.of_events_eq (nextAnswer_events s)).trans (.of_record ⟨_, _, rfl⟩)
  · exact .of_events_eq rfl

/-- OUT appends at most its own write (44_io.md R231). -/
theorem portOut_appends (p v : Byte) : Appends (fun e => ∃ dev, e = .portOut dev p v) s (portOut p v s) := by
  unfold portOut
  split
  · exact .of_record ⟨_, rfl⟩
  · exact .of_events_eq (logPort_events _ _)

end

/-! ## Every instruction -/

section
variable {i : Instr} {s t : State}

/-- An instruction that stores appends notifications only. -/
theorem exec_appends_of_stores (he : exec i s = .next t) (hi : storesMemory i = true) :
    Appends Event.IsNotification s t := by
  have e : next? (exec i s) = some t := by rw [he]; rfl
  clear he
  cases i <;> simp only [exec] at e <;> obtain rfl : _ = t := Option.some.inj e
  case mov | mvi => exact setOpnd_appends _ _ _
  case inr | dcr => exact (Appends.of_events_eq (State.setF_events _ _)).trans (setOpnd_appends _ _ _)
  case stax | sta => exact memWrite_appends _ _ _
  case shld => exact memWrite16_appends _ _ _
  case pushB | pushD | pushH | pushPsw => exact push16_appends _ _
  case call | rst => exact callTo_appends _ _
  case cnz | cz | cnc | cc | cpo | cpe | cp | cm => exact whenCond_callTo_appends _ _ _
  case xthl => exact (memWrite16_appends _ _ _).then_keep (State.setHl_events _ _)
  all_goals cases hi

/-- An instruction that neither stores nor uses a port leaves the record alone. -/
theorem exec_events_of_not_stores (he : exec i s = .next t) (hi : storesMemory i = false)
    (hin : ∀ p, i ≠ .inPort p) (hout : ∀ p, i ≠ .outPort p) : t.events = s.events := by
  have e : next? (exec i s) = some t := by rw [he]; rfl
  clear he
  cases i <;> simp only [exec] at e <;> obtain rfl : _ = t := Option.some.inj e
  case inPort p => exact absurd rfl (hin p)
  case outPort p => exact absurd rfl (hout p)
  case mov | mvi => exact setOpnd_events_of_selRegs _ hi _
  case inr | dcr => exact setOpnd_events_of_selRegs _ hi _
  case stax | sta | shld | pushB | pushD | pushH | pushPsw | call | rst | cnz | cz | cnc | cc | cpo | cpe | cp | cm | xthl =>
    cases hi
  case rnz | rz | rnc | rc | rpo | rpe | rp | rm => exact whenCond_keeps _ _ _ _ (returnTo_events s)
  case jnz | jz | jnc | jc | jpo | jpe | jp | jm => exact whenCond_keeps _ _ _ _ (State.setPc_events s _)
  -- what is left writes registers, flags, SP, PC or the halt cause, none of which is the record
  all_goals simp [unimplemented]

end

/-- Settles O16, by the kind of the instruction: IN, OUT, a storing instruction, or one that appends nothing. -/
theorem eventsAppendOnlyAsTabled : Obligations.EventsAppendOnlyAsTabled := by
  unfold Obligations.EventsAppendOnlyAsTabled
  intro i s t he
  by_cases hin : ∃ p, i = .inPort p
  · obtain ⟨p, rfl⟩ := hin
    cases he
    refine ((portIn_appends s p).then_keep (takeInput_events _ _ _)).mono ?_
    rintro _ ⟨dev, x, rfl⟩
    exact ⟨rfl, rfl⟩
  by_cases hout : ∃ p, i = .outPort p
  · obtain ⟨p, rfl⟩ := hout
    cases he
    refine (portOut_appends s p s.a).mono ?_
    rintro _ ⟨dev, rfl⟩
    exact ⟨rfl, rfl⟩
  by_cases hi : storesMemory i = true
  · refine (exec_appends_of_stores he hi).mono ?_
    rintro _ ⟨device, a, old, new, rfl⟩
    exact hi
  · have hkeep := exec_events_of_not_stores he (Bool.eq_false_iff.mpr hi) (not_exists.mp hin) (not_exists.mp hout)
    exact Appends.of_events_eq hkeep

end Sys2Proof.Machine
end

section
/-! SUPPORT. The invariant (spec/10_state.md R15, R21; spec/20_memory.md R47, R48, R55): the machine after reset meets it and every
step keeps it. -/

namespace Sys2Proof.Machine

/-- Settles O6: memory, ranges and logged ports are empty, F is 0x02, the core runs with no cause. -/
theorem resetMeetsTheInvariant : Obligations.ResetMeetsTheInvariant where
  memory := rfl
  flags := by simp [fixedBits, State.reset]
  cause := by simp [State.reset]
  boundary := Nat.zero_le _
  ranges := List.Pairwise.nil
  logged := List.nodup_nil

/-- A raise writes the halt flag and a cause together (10_state.md R21, 60_exceptions.md R241). -/
theorem raise_cause_ne_none (s : State) {x : HaltCause} (hx : x ≠ .none) : (raise x s).haltCause ≠ .none := by
  rw [(raise_halts s x).2]
  split
  · exact hx
  · assumption

/-- The invariant is closed under the updates that instructions are made of. -/
theorem State.Inv.closed : Closed State.Inv where
  reg _ r _ h := by cases r <;> exact { h with }
  flags _ _ hv h := { h with flags := hv.elim (fun hr => fixedBits_of_sameReserved hr h.flags) id }
  sp _ _ h := { h with }
  pc _ _ h := { h with }
  raised s _ hx h := { h with cause := iff_of_true rfl (raise_cause_ne_none s hx) }
  stored _ a _ _ h := { h with memory := Memory.wf_write _ _ _ (toNat_lt_memSize a) h.memory }
  shadow _ _ h := { h with }
  logged _ _ hp h := { h with logged := List.nodup_cons.mpr ⟨hp, h.logged⟩ }
  event _ _ h := { h with }
  input _ _ h := { h with }
  free _ _ h := { h with }

/-- Settles O7: the invariant is closed under every update a step makes, and the count is not part of it. -/
theorem stepKeepsTheInvariant : Obligations.StepKeepsTheInvariant := by
  unfold Obligations.StepKeepsTheInvariant
  intro s t h hs
  exact State.Inv.closed.step (fun _ _ h => { h with }) hs h

/-! ## A halt is final (10_state.md R20, 60_exceptions.md R241) -/

/-- A core that was halted is halted, and a cause that was recorded stands. -/
def HaltStands (s t : State) : Prop :=
  (s.halted = true → t.halted = true) ∧ (s.haltCause ≠ .none → t.haltCause = s.haltCause)

/-- Of the updates that instructions are made of only a raise touches the halt, and it keeps a recorded cause. -/
theorem haltStands_closed (s : State) : Closed (HaltStands s) where
  reg t r v h := by simpa [HaltStands] using h
  flags _ _ _ h := h
  sp _ _ h := h
  pc _ _ h := h
  raised t x _ h := by
    refine ⟨fun _ => rfl, fun hc => ?_⟩
    have ht := h.2 hc
    rw [(raise_halts t x).2, ht, if_neg hc]
  stored _ _ _ _ h := h
  shadow _ _ h := h
  logged _ _ _ h := h
  event _ _ h := h
  input _ _ h := h
  free _ _ h := h

/-- Settles O9: an instruction is made of updates that keep a halt and its cause. -/
theorem noInstructionResumesOrRecauses : Obligations.NoInstructionResumesOrRecauses := by
  unfold Obligations.NoInstructionResumesOrRecauses
  intro i s t he
  exact (haltStands_closed s).exec i he ⟨id, fun _ => rfl⟩

end Sys2Proof.Machine
end

section
/-! SUPPORT. The diagnostic state (spec/10_state.md R30, spec/60_exceptions.md R260) never affects the machine: every read of the state
is the same, and every operation has the same effect, when the diagnostic state is replaced by another. -/

namespace Sys2Proof.Machine

/-- The parts of a state that are diagnostic: the shadow stack, the logged ports, the hook record, the watch-set, the trace sink. -/
structure Diagnostics where
  shadow : List Frame
  loggedPorts : List Byte
  hookLog : List Hook
  watch : List Word
  traceSink : Option Nat

/-- A state with its diagnostic parts replaced. -/
def State.withDiagnostics (s : State) (d : Diagnostics) : State :=
  { s with
    shadow := d.shadow, loggedPorts := d.loggedPorts, hookLog := d.hookLog,
    cfg := { s.cfg with watch := d.watch, traceSink := d.traceSink } }

/-- States that differ in diagnostic state only are those that replacing it reaches. -/
theorem sameButDiagnostics_iff {s t : State} : SameButDiagnostics s t ↔ ∃ d, t = s.withDiagnostics d := by
  constructor
  · exact fun h => ⟨⟨t.shadow, t.loggedPorts, t.hookLog, t.cfg.watch, t.cfg.traceSink⟩, h⟩
  · rintro ⟨d, rfl⟩
    rfl

section
variable (s : State) (d : Diagnostics)

/-! ## What an instruction reads -/

@[simp] theorem withDiagnostics_a : (s.withDiagnostics d).a = s.a := rfl
@[simp] theorem withDiagnostics_f : (s.withDiagnostics d).f = s.f := rfl
@[simp] theorem withDiagnostics_sp : (s.withDiagnostics d).sp = s.sp := rfl
@[simp] theorem withDiagnostics_pc : (s.withDiagnostics d).pc = s.pc := rfl
@[simp] theorem withDiagnostics_reg (r : Reg) : (s.withDiagnostics d).reg r = s.reg r := by cases r <;> rfl
@[simp] theorem withDiagnostics_bc : (s.withDiagnostics d).bc = s.bc := rfl
@[simp] theorem withDiagnostics_de : (s.withDiagnostics d).de = s.de := rfl
@[simp] theorem withDiagnostics_hl : (s.withDiagnostics d).hl = s.hl := rfl
@[simp] theorem memRead_withDiagnostics (a : Word) : memRead (s.withDiagnostics d) a = memRead s a := rfl
@[simp] theorem memRead16_withDiagnostics (a : Word) : memRead16 (s.withDiagnostics d) a = memRead16 s a := rfl
@[simp] theorem opnd_withDiagnostics (o : Sel) : opnd o (s.withDiagnostics d) = opnd o s := by cases o <;> simp
@[simp] theorem rp_withDiagnostics (p : Pair) : rp p (s.withDiagnostics d) = rp p s := by cases p <;> rfl
@[simp] theorem indexAddr_withDiagnostics (p : IndexPair) : indexAddr p (s.withDiagnostics d) = indexAddr p s := by
  cases p <;> rfl
@[simp] theorem daaLow_withDiagnostics : daaLow (s.withDiagnostics d) = daaLow s := rfl
@[simp] theorem daaFirst_withDiagnostics : daaFirst (s.withDiagnostics d) = daaFirst s := rfl
@[simp] theorem daaSecond_withDiagnostics : daaSecond (s.withDiagnostics d) = daaSecond s := rfl
@[simp] theorem psw_withDiagnostics : psw (s.withDiagnostics d) = psw s := rfl

/-! ## What an instruction does: the diagnostic state stays apart -/

@[simp] theorem setF_withDiagnostics (v : Byte) :
    (s.withDiagnostics d).setF v = (s.setF v).withDiagnostics d := rfl
@[simp] theorem setSp_withDiagnostics (w : Word) :
    (s.withDiagnostics d).setSp w = (s.setSp w).withDiagnostics d := rfl
@[simp] theorem setPc_withDiagnostics (w : Word) :
    (s.withDiagnostics d).setPc w = (s.setPc w).withDiagnostics d := rfl
@[simp] theorem setReg_withDiagnostics (r : Reg) (v : Byte) :
    (s.withDiagnostics d).setReg r v = (s.setReg r v).withDiagnostics d := by cases r <;> rfl
@[simp] theorem setBc_withDiagnostics (w : Word) :
    (s.withDiagnostics d).setBc w = (s.setBc w).withDiagnostics d := rfl
@[simp] theorem setDe_withDiagnostics (w : Word) :
    (s.withDiagnostics d).setDe w = (s.setDe w).withDiagnostics d := rfl
@[simp] theorem setHl_withDiagnostics (w : Word) :
    (s.withDiagnostics d).setHl w = (s.setHl w).withDiagnostics d := rfl
@[simp] theorem setRp_withDiagnostics (p : Pair) (w : Word) :
    setRp p w (s.withDiagnostics d) = (setRp p w s).withDiagnostics d := by cases p <;> rfl
@[simp] theorem setPsw_withDiagnostics (w : Word) :
    setPsw w (s.withDiagnostics d) = (setPsw w s).withDiagnostics d := rfl
@[simp] theorem raise_withDiagnostics (x : HaltCause) :
    raise x (s.withDiagnostics d) = (raise x s).withDiagnostics d := rfl

/-- A device is notified whatever the diagnostic state is. -/
theorem notify_withDiagnostics (a : Word) (old new : Byte) :
    notify a old new (s.withDiagnostics d) = (notify a old new s).withDiagnostics d := by
  have hdev : deviceAt (s.withDiagnostics d) a = deviceAt s a := rfl
  unfold notify
  rw [hdev]
  split <;> rfl

@[simp] theorem memWrite_withDiagnostics (a : Word) (v : Byte) :
    memWrite a v (s.withDiagnostics d) = (memWrite a v s).withDiagnostics d := by
  have hb : (s.withDiagnostics d).cfg.romBoundary = s.cfg.romBoundary := rfl
  unfold memWrite
  rw [hb]
  split
  · rfl
  · exact notify_withDiagnostics (s.setMem (Memory.write s.mem a.toNat v)) d a (memRead s a) v

@[simp] theorem memWrite16_withDiagnostics (a w : Word) :
    memWrite16 a w (s.withDiagnostics d) = (memWrite16 a w s).withDiagnostics d := by simp [memWrite16]

@[simp] theorem setOpnd_withDiagnostics (o : Sel) (v : Byte) :
    setOpnd o v (s.withDiagnostics d) = (setOpnd o v s).withDiagnostics d := by cases o <;> simp

theorem stackFaults_withDiagnostics (a : Word) : stackFaults (s.withDiagnostics d) a = stackFaults s a := rfl

@[simp] theorem stackStore_withDiagnostics (a : Word) (v : Byte) :
    stackStore a v (s.withDiagnostics d) = (stackStore a v s).withDiagnostics d := by
  unfold stackStore
  rw [stackFaults_withDiagnostics]
  split
  · rfl
  · exact memWrite_withDiagnostics s d a v

@[simp] theorem stackLoad_withDiagnostics (a : Word) :
    stackLoad a (s.withDiagnostics d) = ((stackLoad a s).1, (stackLoad a s).2.withDiagnostics d) := by
  unfold stackLoad
  rw [stackFaults_withDiagnostics]
  split <;> rfl

@[simp] theorem push16_withDiagnostics (w : Word) :
    push16 w (s.withDiagnostics d) = (push16 w s).withDiagnostics d := by simp [push16]

@[simp] theorem pop16_withDiagnostics :
    pop16 (s.withDiagnostics d) = ((pop16 s).1, (pop16 s).2.withDiagnostics d) := by simp [pop16]

@[simp] theorem nextAnswer_withDiagnostics :
    nextAnswer (s.withDiagnostics d) = ((nextAnswer s).1, (nextAnswer s).2.withDiagnostics d) := by
  have hin : (s.withDiagnostics d).inputs = s.inputs := rfl
  unfold nextAnswer
  rw [hin]
  split <;> rfl

@[simp] theorem portIn_withDiagnostics (p : Byte) :
    portIn p (s.withDiagnostics d) = ((portIn p s).1, (portIn p s).2.withDiagnostics d) := by
  have hdev : (s.withDiagnostics d).cfg.inDev = s.cfg.inDev := rfl
  unfold portIn
  rw [hdev, nextAnswer_withDiagnostics]
  split <;> rfl

@[simp] theorem takeInput_withDiagnostics (p : Byte) (x : InAnswer) :
    takeInput p x (s.withDiagnostics d) = (takeInput p x s).withDiagnostics d := by cases x <;> rfl

@[simp] theorem aluAdd_withDiagnostics (v : Byte) (cin : Bool) :
    aluAdd v cin (s.withDiagnostics d) = (aluAdd v cin s).withDiagnostics d := by simp [aluAdd]
@[simp] theorem aluCompare_withDiagnostics (v : Byte) (cin : Bool) :
    aluCompare v cin (s.withDiagnostics d) = (aluCompare v cin s).withDiagnostics d := by simp [aluCompare, difference]
@[simp] theorem aluSub_withDiagnostics (v : Byte) (cin : Bool) :
    aluSub v cin (s.withDiagnostics d) = (aluSub v cin s).withDiagnostics d := by simp [aluSub, difference]
@[simp] theorem aluMost_withDiagnostics (r : Byte) :
    aluMost r (s.withDiagnostics d) = (aluMost r s).withDiagnostics d := by simp [aluMost]
@[simp] theorem aluXor_withDiagnostics (v : Byte) :
    aluXor v (s.withDiagnostics d) = (aluXor v s).withDiagnostics d := by simp [aluXor]
@[simp] theorem setAC_withDiagnostics (v : Byte) (carry : Bool) :
    setAC v carry (s.withDiagnostics d) = (setAC v carry s).withDiagnostics d := by simp [setAC]
@[simp] theorem unimplemented_withDiagnostics (opcode : Byte) :
    unimplemented opcode (s.withDiagnostics d) = (unimplemented opcode s).withDiagnostics d := rfl

/-! ## The operations that write the diagnostic state: only it depends on what it was -/

theorem popFrame_withDiagnostics (p : Word) :
    ∃ d', popFrame p (s.withDiagnostics d) = (popFrame p s).withDiagnostics d' := by
  refine ⟨{ d with shadow := (popFrame p (s.withDiagnostics d)).shadow }, ?_⟩
  rw [popFrame_eq, popFrame_eq s]
  rfl

theorem logPort_withDiagnostics (p : Byte) :
    ∃ d', logPort p (s.withDiagnostics d) = (logPort p s).withDiagnostics d' := by
  have he : ∀ u, logPort p u = { u with loggedPorts := (logPort p u).loggedPorts } := by
    intro u
    unfold logPort
    split <;> rfl
  refine ⟨{ d with loggedPorts := (logPort p (s.withDiagnostics d)).loggedPorts }, ?_⟩
  rw [he, he s]
  rfl

theorem portOut_withDiagnostics (p v : Byte) :
    ∃ d', portOut p v (s.withDiagnostics d) = (portOut p v s).withDiagnostics d' := by
  have hdev : (s.withDiagnostics d).cfg.outDev = s.cfg.outDev := rfl
  unfold portOut
  rw [hdev]
  split
  · exact ⟨d, rfl⟩
  · exact logPort_withDiagnostics s d p

theorem callTo_withDiagnostics (w : Word) :
    ∃ d', callTo w (s.withDiagnostics d) = (callTo w s).withDiagnostics d' := by
  refine ⟨{ d with shadow := ⟨s.sp - 2, s.pc⟩ :: d.shadow }, ?_⟩
  simp only [callTo, withDiagnostics_pc, withDiagnostics_sp, push16_withDiagnostics]
  rfl

theorem returnTo_withDiagnostics :
    ∃ d', returnTo (s.withDiagnostics d) = (returnTo s).withDiagnostics d' := by
  obtain ⟨d', hd⟩ := popFrame_withDiagnostics (pop16 s).2 d s.sp
  refine ⟨d', ?_⟩
  simp [returnTo, hd]

/-- A condition reads F only, so a conditional transfer keeps the diagnostic state as far apart as the transfer does. -/
theorem whenCond_withDiagnostics (ccc : BitVec 3) {taken : State → State}
    (h : ∃ d', taken (s.withDiagnostics d) = (taken s).withDiagnostics d') :
    ∃ d', whenCond ccc taken (s.withDiagnostics d) = (whenCond ccc taken s).withDiagnostics d' := by
  unfold whenCond
  rw [withDiagnostics_f]
  split
  · exact h
  · exact ⟨d, rfl⟩

end

/-! ## Every instruction, every step -/

/-- An instruction with other diagnostic state answers the same state with other diagnostic state. -/
theorem exec_withDiagnostics {i : Instr} {s t : State} (d : Diagnostics) (he : exec i s = .next t) :
    ∃ d', exec i (s.withDiagnostics d) = .next (t.withDiagnostics d') := by
  have e : next? (exec i s) = some t := by rw [he]; rfl
  clear he
  have lift : ∀ {u v : State}, (∃ d', u = v.withDiagnostics d') →
      ∃ d', (Host.Outcome.next u : Result) = .next (v.withDiagnostics d') :=
    fun h => h.imp fun _ hd => congrArg _ hd
  cases i <;> simp only [exec] at e ⊢ <;> obtain rfl : _ = t := Option.some.inj e
  case call | rst => exact lift (callTo_withDiagnostics _ _ _)
  case ret => exact lift (returnTo_withDiagnostics _ _)
  case outPort => exact lift (portOut_withDiagnostics _ _ _ _)
  case cnz | cz | cnc | cc | cpo | cpe | cp | cm =>
    exact lift (whenCond_withDiagnostics _ _ _ (callTo_withDiagnostics _ _ _))
  case rnz | rz | rnc | rc | rpo | rpe | rp | rm =>
    exact lift (whenCond_withDiagnostics _ _ _ (returnTo_withDiagnostics _ _))
  case jnz | jz | jnc | jc | jpo | jpe | jp | jm => exact lift (whenCond_withDiagnostics _ _ _ ⟨d, rfl⟩)
  -- what is left neither reads nor writes the diagnostic state
  all_goals exact lift ⟨d, by simp⟩

/-- Settles O17: the step reads nothing diagnostic to fetch, and the instruction it fetches keeps the diagnostic state apart. -/
theorem diagnosticsNeverAffectTheMachine : Obligations.DiagnosticsNeverAffectTheMachine := by
  unfold Obligations.DiagnosticsNeverAffectTheMachine
  intro s s' t hd hs
  obtain ⟨d, rfl⟩ := sameButDiagnostics_iff.mp hd
  obtain ⟨hrun, u, hu, rfl⟩ := step_next hs
  obtain ⟨d', hu'⟩ := exec_withDiagnostics d hu
  have hstep : step (s.withDiagnostics d) =
      countStep (exec (fetchInstr s) ((advancePc (fetchInstr s) s).withDiagnostics d)) := step_running hrun
  refine ⟨(u.setIcount (u.icount + 1)).withDiagnostics d', ?_, sameButDiagnostics_iff.mpr ⟨d', rfl⟩⟩
  rw [hstep, hu']
  rfl

end Sys2Proof.Machine
end

section
/-! SUPPORT. The tables of spec/10_state.md (R12, R14, R16, R18): which instructions may write the general registers, SP, PC and each
flag. In each table the instructions that the table names for the part in question are left, and the rest is seen to keep it. -/

namespace Sys2Proof.Machine

/-! ## The general registers (R12) -/

section
variable (s : State)

theorem setRp_reg_of_not_mem {p : Pair} (w : Word) {r : Reg} (hr : r ∉ pairRegs p) : (setRp p w s).reg r = s.reg r :=
  (setRp_pairSet s p w).2.1 r hr

theorem setOpnd_reg_of_not_mem {o : Sel} (v : Byte) {r : Reg} (hr : r ∉ selRegs o) : (setOpnd o v s).reg r = s.reg r := by
  cases o with
  | reg q =>
    have hne : r ≠ q := by simpa [selRegs] using hr
    simp [hne]
  | m => simp

theorem setPsw_reg_of_ne (w : Word) {r : Reg} (hr : r ≠ .a) : (setPsw w s).reg r = s.reg r := by
  unfold setPsw
  split <;> simp [hr]

theorem takeInput_reg_of_ne (p : Byte) (x : InAnswer) {r : Reg} (hr : r ≠ .a) : (takeInput p x s).reg r = s.reg r := by
  cases x <;> simp [takeInput, hr]

@[simp] theorem callTo_reg (w : Word) (r : Reg) : (callTo w s).reg r = s.reg r := by simp [callTo]
@[simp] theorem returnTo_reg (r : Reg) : (returnTo s).reg r = s.reg r := by simp [returnTo]
@[simp] theorem unimplemented_reg (opcode : Byte) (r : Reg) : (unimplemented opcode s).reg r = s.reg r := by
  simp [unimplemented]

end

/-- Settles O13, by the kind of the instruction: one that writes a pair, a selector's register, A, or no register. -/
theorem registersWrittenAsTabled : Obligations.RegistersWrittenAsTabled := by
  unfold Obligations.RegistersWrittenAsTabled
  intro i s t he r hr
  have e : next? (exec i s) = some t := by rw [he]; rfl
  clear he
  cases i <;> simp only [exec] at e <;> obtain rfl : _ = t := Option.some.inj e
  case lxi | inx | dcx => exact setRp_reg_of_not_mem _ _ hr
  case mov | mvi => exact setOpnd_reg_of_not_mem _ _ hr
  case inr | dcr => exact (setOpnd_reg_of_not_mem _ _ hr).trans (State.setF_reg _ _ _)
  case rnz | rz | rnc | rc | rpo | rpe | rp | rm => exact whenCond_keeps _ (State.reg · r) _ _ (returnTo_reg s r)
  case jnz | jz | jnc | jc | jpo | jpe | jp | jm => exact whenCond_keeps _ (State.reg · r) _ _ (State.setPc_reg s _ r)
  case cnz | cz | cnc | cc | cpo | cpe | cp | cm => exact whenCond_keeps _ (State.reg · r) _ _ (callTo_reg s _ r)
  all_goals simp only [writesRegs, List.mem_cons, List.not_mem_nil, or_false, not_or] at hr
  case popPsw => exact (setPsw_reg_of_ne _ _ hr).trans (pop16_reg _ _)
  case inPort => exact (takeInput_reg_of_ne _ _ _ hr).trans (portIn_reg _ _ _)
  case add | adc | adi | aci => simp [aluAdd, hr]
  case sub | sbb | sui | sbi => simp [aluSub, hr]
  case ana | ora | ani | ori => simp [aluMost, hr]
  case xra | xri => simp [aluXor, hr]
  case rlc | rrc | ral | rar => simp [setAC, hr]
  -- what is left writes its registers by name, or none
  all_goals simp [hr]

/-! ## SP (R16) and PC (R18) -/

section
variable {i : Instr} {s t : State}

/-- An instruction that is not listed as writing SP leaves it. -/
theorem exec_sp_of_not_writesSp (he : exec i s = .next t) (hi : writesSp i = false) : t.sp = s.sp := by
  have e : next? (exec i s) = some t := by rw [he]; rfl
  clear he
  cases i <;> simp only [exec] at e <;> obtain rfl : _ = t := Option.some.inj e
  case lxi p _ | inx p | dcx p => exact (setRp_pairSet s p _).2.2.1 (by simpa [writesSp] using hi)
  case jnz | jz | jnc | jc | jpo | jpe | jp | jm => exact whenCond_keeps _ _ _ _ (State.setPc_sp s _)
  case rnz | rz | rnc | rc | rpo | rpe | rp | rm | cnz | cz | cnc | cc | cpo | cpe | cp | cm => cases hi
  case sphl | call | ret | rst | popB | popD | popH | popPsw | pushB | pushD | pushH | pushPsw => cases hi
  -- what is left writes registers, flags, memory, PC, the ports or the halt cause
  all_goals simp [unimplemented]

/-- An instruction that is not listed as transferring control leaves PC where the fetch put it. -/
theorem exec_pc_of_not_transfersControl (he : exec i s = .next t) (hi : transfersControl i = false) : t.pc = s.pc := by
  have e : next? (exec i s) = some t := by rw [he]; rfl
  clear he
  cases i <;> simp only [exec] at e <;> obtain rfl : _ = t := Option.some.inj e
  case jnz | jz | jnc | jc | jpo | jpe | jp | jm | cnz | cz | cnc | cc | cpo | cpe | cp | cm => cases hi
  case rnz | rz | rnc | rc | rpo | rpe | rp | rm | jmp | call | ret | rst | pchl => cases hi
  -- what is left writes registers, flags, memory, SP, the ports or the halt cause
  all_goals simp [unimplemented]

end

/-- Settles O14: each instruction outside the two lists leaves SP, or PC. -/
theorem spAndPcWrittenAsTabled : Obligations.SpAndPcWrittenAsTabled := by
  unfold Obligations.SpAndPcWrittenAsTabled
  intro i s t he
  exact ⟨exec_sp_of_not_writesSp he, exec_pc_of_not_transfersControl he⟩

/-! ## The flags (R14) -/

section
variable {i : Instr} {s t : State}

/-- An instruction that no flag's list names leaves all of F. -/
theorem exec_f_of_not_writes (he : exec i s = .next t) (hszp : writesSZP i = false) (hc : writesC i = false) :
    t.f = s.f := by
  have e : next? (exec i s) = some t := by rw [he]; rfl
  clear he
  cases i <;> simp only [exec] at e <;> obtain rfl : _ = t := Option.some.inj e
  case add | adc | sub | sbb | ana | xra | ora | cmp | adi | aci | sui | sbi | ani | xri | ori | cpi => cases hszp
  case inr | dcr | daa | popPsw => cases hszp
  case dad | rlc | rrc | ral | rar | stc | cmc => cases hc
  case rnz | rz | rnc | rc | rpo | rpe | rp | rm => exact whenCond_keeps _ _ _ _ (returnTo_f s)
  case jnz | jz | jnc | jc | jpo | jpe | jp | jm => exact whenCond_keeps _ _ _ _ (State.setPc_f s _)
  case cnz | cz | cnc | cc | cpo | cpe | cp | cm => exact whenCond_keeps _ _ _ _ (callTo_f s _)
  -- what is left writes registers, memory, SP, PC, the ports or the halt cause
  all_goals simp [unimplemented]

/-- Of the instructions that leave S, Z and P, those that write Carry write nothing else of F. -/
theorem exec_onlyCarry (he : exec i s = .next t) (hszp : writesSZP i = false) : OnlyCarry s.f t.f := by
  cases hc : writesC i
  case false => exact fun j _ => by rw [exec_f_of_not_writes he hszp hc]
  have hboth : (!writesSZP i && writesC i) = true := by simp [hszp, hc]
  have e : next? (exec i s) = some t := by rw [he]; rfl
  intro j hj
  cases i
  case dad | rlc | rrc | ral | rar | stc | cmc =>
    obtain rfl : _ = t := Option.some.inj e
    simp [setAC, hj]
  all_goals cases hboth

/-- Of the instructions that write S, Z and P only INR and DCR are not listed for Carry, and they leave it. -/
theorem exec_flagC_of_not_writesC (he : exec i s = .next t) (hc : writesC i = false) : flagC t.f = flagC s.f := by
  cases hszp : writesSZP i
  case false => rw [exec_f_of_not_writes he hszp hc]
  have hboth : (writesSZP i && !writesC i) = true := by simp [hszp, hc]
  have e : next? (exec i s) = some t := by rw [he]; rfl
  cases i
  case inr | dcr =>
    obtain rfl : _ = t := Option.some.inj e
    simp
  all_goals cases hboth

/-- Of the instructions that write S, Z and P only ANA, ORA, ANI and ORI are not listed for Auxiliary-Carry, and they leave it. -/
theorem exec_flagAC_of_not_writesAC (he : exec i s = .next t) (hac : writesAC i = false) : flagAC t.f = flagAC s.f := by
  cases hszp : writesSZP i
  case false => exact exec_onlyCarry he hszp 4 (by decide)
  have hboth : (writesSZP i && !writesAC i) = true := by simp [hszp, hac]
  have e : next? (exec i s) = some t := by rw [he]; rfl
  cases i
  case ana | ora | ani | ori =>
    obtain rfl : _ = t := Option.some.inj e
    simp [aluMost]
  all_goals cases hboth

end

/-- Settles O15: S, Z and P are bits that an instruction outside their list leaves with all but Carry. -/
theorem flagsWrittenAsTabled : Obligations.FlagsWrittenAsTabled := by
  unfold Obligations.FlagsWrittenAsTabled
  intro i s t he
  refine ⟨fun hszp => ?_, exec_flagAC_of_not_writesAC he, exec_flagC_of_not_writesC he, exec_f_of_not_writes he⟩
  have hkeep := exec_onlyCarry he hszp
  exact ⟨hkeep 7 (by decide), hkeep 6 (by decide), hkeep 2 (by decide)⟩

end Sys2Proof.Machine
end

section
/-! SUPPORT. What the host does before a run (spec/20_memory.md R47, R48, R59; spec/60_exceptions.md R259;
spec/70_reset_and_hazards.md R281, R286, R287): what each operation answers, and that it keeps the invariant. -/

namespace Sys2Proof.Machine

section
variable {s t : State}

/-! ## `load_byte` (R59, R286) -/

theorem loadByte_next_iff {a v : Nat} : loadByte a v s = .next t ↔
    (a < memSize ∧ v < 256) ∧ t = s.setMem (Memory.write s.mem a (BitVec.ofNat 8 v)) := by
  unfold loadByte
  split <;> simp [*, eq_comm]

/-- Loading a byte in range changes that byte only, whatever the boundary. -/
theorem loadByte_in_range {a v : Nat} (ha : a < 0x10000) (hv : v < 256) :
    ∃ t, loadByte a v s = .next t ∧ t = { s with mem := t.mem } ∧
      memRead t (BitVec.ofNat 16 a) = BitVec.ofNat 8 v ∧ SameMemoryBut [BitVec.ofNat 16 a] s t := by
  have haddr : (BitVec.ofNat 16 a).toNat = a := by simp; omega
  refine ⟨_, loadByte_next_iff.mpr ⟨⟨ha, hv⟩, rfl⟩, rfl, ?_, fun x hx => ?_⟩
  · rw [memRead, haddr]
    exact Memory.read_write_same _ _ _
  · have hne : x.toNat ≠ a := fun h => hx (by simp [← h])
    exact Memory.read_write_other _ _ hne

theorem State.Inv.loadByte {a v : Nat} (h : s.Inv) (hs : loadByte a v s = .next t) : t.Inv := by
  obtain ⟨⟨ha, -⟩, rfl⟩ := loadByte_next_iff.mp hs
  exact { h with memory := Memory.wf_write _ _ _ ha h.memory }

/-! ## `set_read_only_boundary` (R47) -/

theorem setReadOnlyBoundary_next_iff {n : Nat} : setReadOnlyBoundary n s = .next t ↔
    n ≤ memSize ∧ t = s.setCfg { s.cfg with romBoundary := n } := by
  unfold setReadOnlyBoundary
  split <;> simp [*, eq_comm]

theorem State.Inv.setReadOnlyBoundary {n : Nat} (h : s.Inv) (hs : setReadOnlyBoundary n s = .next t) : t.Inv := by
  obtain ⟨hn, rfl⟩ := setReadOnlyBoundary_next_iff.mp hs
  exact { h with boundary := hn }

/-! ## `set_memory_mapped_device` (R48) -/

/-- A range is accepted exactly when it meets no registered one. -/
theorem setMemoryMappedDevice_next_iff {d : Nat} {x y : Word} : setMemoryMappedDevice d x y s = .next t ↔
    (∀ r ∈ s.cfg.mmio, rangesMeet ⟨x, y, d⟩ r = false) ∧ t = s.setCfg { s.cfg with mmio := s.cfg.mmio ++ [⟨x, y, d⟩] } := by
  have hany : (∀ r ∈ s.cfg.mmio, rangesMeet ⟨x, y, d⟩ r = false) ↔ s.cfg.mmio.any (rangesMeet ⟨x, y, d⟩) = false := by
    simp [List.any_eq_false]
  rw [hany]
  unfold setMemoryMappedDevice
  cases s.cfg.mmio.any (rangesMeet ⟨x, y, d⟩) <;> simp [eq_comm]

theorem setMemoryMappedDevice_refused {d : Nat} {x y a : Word} {r : MmioRange} (hr : r ∈ s.cfg.mmio) (hra : r.first ≤ a)
    (har : a ≤ r.last) (hxa : x ≤ a) (hay : a ≤ y) : setMemoryMappedDevice d x y s = .refused .overlappingRange := by
  have hmeet : rangesMeet ⟨x, y, d⟩ r = true := (rangesMeet_iff _ _).mpr ⟨a, hxa, hay, hra, har⟩
  unfold setMemoryMappedDevice
  rw [if_pos (List.any_eq_true.mpr ⟨r, hr, hmeet⟩)]

theorem setMemoryMappedDevice_accepted {d : Nat} {x y : Word}
    (h : ∀ r ∈ s.cfg.mmio, ∀ a : Word, r.first ≤ a → a ≤ r.last → x ≤ a → ¬a ≤ y) :
    setMemoryMappedDevice d x y s = .next (s.setCfg { s.cfg with mmio := s.cfg.mmio ++ [⟨x, y, d⟩] }) := by
  refine setMemoryMappedDevice_next_iff.mpr ⟨fun r hr => ?_, rfl⟩
  refine Bool.eq_false_iff.mpr fun hmeet => ?_
  obtain ⟨a, hxa, hay, hra, har⟩ := (rangesMeet_iff _ _).mp hmeet
  exact h r hr a hra har hxa hay

theorem rangesMeet_comm (r q : MmioRange) : rangesMeet r q = rangesMeet q r := by
  simp [rangesMeet, max_comm, min_comm]

/-- A range that meets none of a disjoint list may be added to it. -/
theorem disjointRanges_append {rs : List MmioRange} {q : MmioRange} (h : disjointRanges rs)
    (hq : ∀ r ∈ rs, rangesMeet q r = false) : disjointRanges (rs ++ [q]) := by
  refine List.pairwise_append.mpr ⟨h, List.pairwise_singleton _ _, fun r hr q' hq' => ?_⟩
  rw [List.mem_singleton.mp hq', rangesMeet_comm]
  exact hq r hr

theorem State.Inv.setMemoryMappedDevice {d : Nat} {x y : Word} (h : s.Inv)
    (hs : setMemoryMappedDevice d x y s = .next t) : t.Inv := by
  obtain ⟨hmeet, rfl⟩ := setMemoryMappedDevice_next_iff.mp hs
  exact { h with ranges := disjointRanges_append h.ranges hmeet }

/-! ## `reset(start_pc)` (R281) -/

/-- Reset writes F, `halted` and the cause itself, so the invariant asks nothing of what they were. -/
theorem resetAt_inv (n : Nat) (hmem : Memory.wf s.mem = true) (hb : s.cfg.romBoundary ≤ memSize)
    (hr : disjointRanges s.cfg.mmio) (hl : s.loggedPorts.Nodup) : (resetAt n s).Inv where
  memory := hmem
  flags := by simp [fixedBits, resetAt]
  cause := by simp [resetAt]
  boundary := hb
  ranges := hr
  logged := hl

end

/-- Settles O60, one clause after the other by the lemmas above; what sets one item of the configuration has its effect by definition
and keeps the invariant because the boundary and the ranges stand. -/
theorem hostOperationsKeepTheInvariant : Obligations.HostOperationsKeepTheInvariant := by
  unfold Obligations.HostOperationsKeepTheInvariant
  refine ⟨fun s a v => loadByte_in_range, fun s t a v => State.Inv.loadByte, fun s t n => State.Inv.setReadOnlyBoundary,
    fun s t d x y => State.Inv.setMemoryMappedDevice, fun s d x y r a => setMemoryMappedDevice_refused,
    fun s d x y => setMemoryMappedDevice_accepted, fun s p q h => ?_, fun s a x k on rs => ?_, fun s p a k on rs h => ?_,
    fun s n => resetAt_inv n⟩
  · exact ⟨rfl, handlerOf_mapPort p q h _, rfl, handlerOf_mapPort p q h _⟩
  · exact ⟨rfl, List.mem_cons, rfl, rfl, rfl⟩
  · exact ⟨h.withConfig _ rfl rfl, h.withConfig _ rfl rfl, h.withConfig _ rfl rfl, h.withConfig _ rfl rfl,
      h.withConfig _ rfl rfl, h.withConfig _ rfl rfl⟩

end Sys2Proof.Machine
end

section
/-! SUPPORT. Memory (spec/20_memory.md R44, R47, R62): where a store lands and where it is refused, what the next fetch sees of it, and
that nothing but a storing instruction, at or above the read-only boundary, changes a byte. -/

namespace Sys2Proof.Machine

/-! ## One store (R44, R47) -/

section
variable {s : State} {a : Word} (v : Byte)

/-- A store below the boundary is refused. -/
theorem memWrite_refused (h : a.toNat < s.cfg.romBoundary) :
    (memWrite a v s).halted = true ∧ SameMemory s (memWrite a v s) := by
  have hraise : memWrite a v s = raise (.readOnlyViolation a v) s := if_pos h
  rw [hraise]
  exact ⟨(raise_halts s _).1, memRead_raise s _⟩

/-- What reads find after a store at or above the boundary: the new byte at its address, the old one everywhere else. -/
theorem memRead_memWrite_of_le (h : s.cfg.romBoundary ≤ a.toNat) (x : Word) :
    memRead (memWrite a v s) x = if a = x then v else memRead s x := by
  obtain ⟨hother, -, hself⟩ := memWrite_stored s a v
  rw [if_neg (Nat.not_lt.mpr h)] at hself
  split
  · next hx => exact hx ▸ hself.1
  · next hx => exact hother x (by simpa using Ne.symm hx)

theorem memWrite_sameHalt_of_le (h : s.cfg.romBoundary ≤ a.toNat) : SameHalt s (memWrite a v s) := by
  obtain ⟨-, -, hself⟩ := memWrite_stored s a v
  rw [if_neg (Nat.not_lt.mpr h)] at hself
  exact hself.2.1

end

/-! ## The read-only bytes of a run (R47) -/

/-- The boundary and every byte below it are as before. -/
def KeepsReadOnly (s t : State) : Prop :=
  t.cfg.romBoundary = s.cfg.romBoundary ∧ ∀ a : Word, a.toNat < s.cfg.romBoundary → memRead t a = memRead s a

/-- Of the updates that instructions are made of only a store writes memory, and it writes at or above the boundary. -/
theorem keepsReadOnly_closed (s : State) : Closed (KeepsReadOnly s) where
  reg _ r _ h := by cases r <;> exact h
  flags _ _ _ h := h
  sp _ _ h := h
  pc _ _ h := h
  raised _ _ _ h := h
  stored t a v ha h := by
    obtain ⟨hb, hread⟩ := h
    refine ⟨hb, fun x hx => ?_⟩
    have hne : x ≠ a := by
      rintro rfl
      omega
    exact (memRead_setMem_write_other t v hne).trans (hread x hx)
  shadow _ _ h := h
  logged _ _ _ h := h
  event _ _ h := h
  input _ _ h := h
  free _ _ h := h

theorem step_keepsReadOnly {s t : State} (hs : step s = .next t) : KeepsReadOnly s t :=
  (keepsReadOnly_closed s).step (fun _ _ h => h) hs ⟨rfl, fun _ _ => rfl⟩

/-- Settles O8: a step is made of updates that keep the read-only bytes, and the other clauses are about one store, which is refused
below the boundary and lands at or above it; every address is at or above 0 and below 0x10000. -/
theorem readOnlyBoundaryProtects : Obligations.ReadOnlyBoundaryProtects := by
  unfold Obligations.ReadOnlyBoundaryProtects
  have lands : ∀ (s : State) (a : Word) (v : Byte), s.cfg.romBoundary ≤ a.toNat → memRead (memWrite a v s) a = v :=
    fun s a v h => by rw [memRead_memWrite_of_le v h, if_pos rfl]
  refine ⟨fun s t a hs => (step_keepsReadOnly hs).2 a, fun s t hs => (step_keepsReadOnly hs).1,
    fun s a v => memWrite_refused v, fun s a v h => ⟨lands s a v h, memWrite_sameHalt_of_le v h⟩,
    fun s a v h => lands s a v (h ▸ Nat.zero_le _), fun s a v h => ?_,
    fun s n hn => setReadOnlyBoundary_next_iff.mpr ⟨hn, rfl⟩⟩
  have hbelow : a.toNat < s.cfg.romBoundary := h ▸ a.isLt
  exact (memWrite_refused v hbelow).2

/-! ## Which instructions change memory (R12, R44) -/

/-- Writing a selector that is a register leaves memory alone. -/
theorem setOpnd_mem_of_selRegs (s : State) {o : Sel} (h : decide (selRegs o = []) = false) (v : Byte) :
    (setOpnd o v s).mem = s.mem := by
  cases o
  · exact State.setReg_mem _ _ _
  · cases h

/-- An instruction that is not listed as storing leaves the memory list itself. -/
theorem exec_mem_of_not_stores {i : Instr} {s t : State} (he : exec i s = .next t) (hi : storesMemory i = false) :
    t.mem = s.mem := by
  have e : next? (exec i s) = some t := by rw [he]; rfl
  clear he
  cases i <;> simp only [exec] at e <;> obtain rfl : _ = t := Option.some.inj e
  case mov | mvi => exact setOpnd_mem_of_selRegs _ hi _
  case inr | dcr => exact setOpnd_mem_of_selRegs _ hi _
  case stax | sta | shld | pushB | pushD | pushH | pushPsw | call | rst | cnz | cz | cnc | cc | cpo | cpe | cp | cm | xthl =>
    cases hi
  case rnz | rz | rnc | rc | rpo | rpe | rp | rm => exact whenCond_keeps _ _ _ _ (returnTo_mem s)
  case jnz | jz | jnc | jc | jpo | jpe | jp | jm => exact whenCond_keeps _ _ _ _ (State.setPc_mem s _)
  -- what is left writes registers, flags, SP, PC, the ports or the halt cause
  all_goals simp [unimplemented]

/-- Settles O12: with the memory list unchanged every read is. -/
theorem onlyStoresChangeMemory : Obligations.OnlyStoresChangeMemory := by
  unfold Obligations.OnlyStoresChangeMemory
  intro i s t he hi
  exact memRead_of_mem (exec_mem_of_not_stores he hi)

/-! ## The next fetch (R62, R289) -/

/-- Settles O18: a store keeps PC, and each of the three bytes fetched there is a read after the store. -/
theorem fetchSeesTheStoredByte : Obligations.FetchSeesTheStoredByte := by
  unfold Obligations.FetchSeesTheStoredByte
  intro s a v h
  simp only [fetchInstr, memWrite_pc, memRead_memWrite_of_le v h]

end Sys2Proof.Machine
end

section
/-! SUPPORT. The port bus (spec/20_memory.md R52 to R57, spec/44_io.md R230, R231): what IN and OUT do on a mapped and on an unmapped
port. -/

namespace Sys2Proof.Machine

/-- A port is unmapped exactly when no entry of the map is for it (R52). -/
theorem handlerOf_eq_none_iff {m : List PortEntry} {p : Byte} : handlerOf m p = none ↔ ∀ e ∈ m, e.port ≠ p := by
  simp [handlerOf]

section
variable {s : State} {p : Byte} {dev : Nat}

/-! ## OUT (R55, R231) -/

theorem portOut_mapped (v : Byte) (h : handlerOf s.cfg.outDev p = some dev) :
    portOut p v s = record (.portOut dev p v) s := by
  unfold portOut
  rw [h]

theorem portOut_unmapped (v : Byte) (h : handlerOf s.cfg.outDev p = none) : portOut p v s = logPort p s := by
  unfold portOut
  rw [h]

/-- Logging a port changes the logged ports only, and adds it if it is not there yet. -/
theorem logPort_eq (p : Byte) (s : State) :
    logPort p s = { s with loggedPorts := if p ∈ s.loggedPorts then s.loggedPorts else p :: s.loggedPorts } := by
  unfold logPort
  split <;> rfl

/-! ## IN (R54, R230) -/

/-- The state once the handler has answered: the answer is used up and the read recorded, A is not yet loaded. -/
def answered (dev : Nat) (p : Byte) (s : State) : State :=
  record (.portIn dev p s.view (nextAnswer s).1) (nextAnswer s).2

theorem portIn_mapped (h : handlerOf s.cfg.inDev p = some dev) : portIn p s = ((nextAnswer s).1, answered dev p s) := by
  unfold portIn
  rw [h]
  rfl

theorem portIn_unmapped (h : handlerOf s.cfg.inDev p = none) : portIn p s = (.byte 0x00, s) := by
  unfold portIn
  rw [h]

theorem exec_inPort_mapped (h : handlerOf s.cfg.inDev p = some dev) :
    exec (.inPort p) s = .next (takeInput p (nextAnswer s).1 (answered dev p s)) := by
  simp only [exec, execInPort, portIn_mapped h]

theorem exec_inPort_unmapped (h : handlerOf s.cfg.inDev p = none) : exec (.inPort p) s = .next (s.setReg .a 0x00) := by
  simp only [exec, execInPort, portIn_unmapped h, takeInput]

/-- A listed answer is taken first (log 5). -/
theorem nextAnswer_of_cons {x : InAnswer} {xs : List InAnswer} (h : s.inputs = x :: xs) :
    nextAnswer s = (x, s.setInputs xs) := by
  unfold nextAnswer
  rw [h]

/-- With none listed the answer is a free value (log 5). -/
theorem nextAnswer_of_nil (h : s.inputs = []) :
    nextAnswer s = (Config.freeAnswer s.freeCount, s.setFreeCount (s.freeCount + 1)) := by
  unfold nextAnswer
  rw [h]

/-- Taking an answer uses up the first one listed, or a free value, and changes nothing else. -/
theorem nextAnswer_eq (s : State) :
    (nextAnswer s).2 = { s with inputs := s.inputs.tail, freeCount := (nextAnswer s).2.freeCount } := by
  cases h : s.inputs with
  | nil => rw [nextAnswer_of_nil h, List.tail_nil, ← h]; rfl
  | cons x xs => rw [nextAnswer_of_cons h]; rfl

/-- What the handler's answer leaves: one more event, one answer fewer. -/
theorem answered_eq (dev : Nat) (p : Byte) (s : State) :
    answered dev p s =
      { s with
        events := s.events ++ [.portIn dev p s.view (nextAnswer s).1], inputs := s.inputs.tail,
        freeCount := (answered dev p s).freeCount } := by
  unfold answered
  rw [record, nextAnswer_events, nextAnswer_eq s]
  rfl

end

/-- Settles O54: a delivery is one more event, a drop one more logged port unless it is logged already. -/
theorem outDeliversAOrDropsIt : Obligations.OutDeliversAOrDropsIt := by
  unfold Obligations.OutDeliversAOrDropsIt
  intro s p
  refine ⟨fun dev hdev => ?_, fun hnone => ?_⟩
  · exact congrArg Host.Outcome.next (portOut_mapped s.a hdev)
  · exact congrArg Host.Outcome.next ((portOut_unmapped s.a hnone).trans (logPort_eq p s))

/-- Settles O53: a port with no entry has no handler, so IN loads the byte 0x00 and OUT only logs the port. -/
theorem unmappedPortsDoNotHalt : Obligations.UnmappedPortsDoNotHalt := by
  unfold Obligations.UnmappedPortsDoNotHalt
  intro s p
  refine ⟨fun hin => exec_inPort_unmapped (handlerOf_eq_none_iff.mpr hin), fun hout => ?_⟩
  exact ⟨_, (outDeliversAOrDropsIt s p).2 (handlerOf_eq_none_iff.mpr hout), rfl⟩

/-- Settles O55: IN is `takeInput` of the next answer on the state that the handler's answer leaves. -/
theorem inTakesTheAnswer : Obligations.InTakesTheAnswer := by
  unfold Obligations.InTakesTheAnswer
  intro s p dev hdev
  have hexec := exec_inPort_mapped hdev
  refine ⟨(nextAnswer s).1, answered dev p s, answered_eq dev p s, fun x xs hx => ?_, fun v hv => ?_, fun hno => ?_⟩
  · simp [answered, nextAnswer_of_cons hx]
  · rw [hexec, hv]
    rfl
  · have hcause : (answered dev p s).haltCause = s.haltCause := by rw [answered_eq]
    refine ⟨raise (.endOfInput p) (answered dev p s), ?_, raise_halts_of _ hcause, raise_eq _ _⟩
    rw [hexec, hno]
    rfl

end Sys2Proof.Machine
end

section
/-! SUPPORT. The encoding (spec/30_encoding.md R70 to R78): the decoder reads each field of an opcode byte back, so decoding inverts
encoding; the step is the instruction decoded at PC. -/

namespace Sys2Proof.Machine

/-! ## Fields of an opcode byte (R71) -/

section
variable (fam : BitVec 2) (ddd sss : BitVec 3)

theorem field_opByte_family : field (opByte fam ddd sss) 6 2 = fam.toNat := by
  have h : (opByte fam ddd sss).extractLsb' 6 2 = (fam ++ ddd).extractLsb' 3 2 :=
    BitVec.extractLsb'_append_eq_of_le (by decide)
  rw [field, h, BitVec.extractLsb'_append_eq_left]

theorem field_opByte_low : field (opByte fam ddd sss) 0 3 = sss.toNat :=
  congrArg BitVec.toNat BitVec.extractLsb'_append_eq_right

theorem field_opByte_middle : field (opByte fam ddd sss) 3 3 = ddd.toNat := by
  have h : (opByte fam ddd sss).extractLsb' 3 3 = (fam ++ ddd).extractLsb' 0 3 :=
    BitVec.extractLsb'_append_eq_of_le (by decide)
  rw [field, h, BitVec.extractLsb'_append_eq_right]

end

/-! ## The decoder on an opcode byte, one rule for each family (R75) -/

section
variable (ddd sss : BitVec 3) (b1 b2 : Byte)

theorem decode_family00 :
    decode (opByte 0b00 ddd sss) b1 b2 = decodeFamily00 ddd.toNat sss.toNat b1 (wordOf b2 b1) := by
  rw [decode, field_opByte_family, field_opByte_middle, field_opByte_low]
  rfl

theorem decode_family01 : decode (opByte 0b01 ddd sss) b1 b2 = decodeFamily01 ddd.toNat sss.toNat := by
  rw [decode, field_opByte_family, field_opByte_middle, field_opByte_low]
  rfl

theorem decode_family10 : decode (opByte 0b10 ddd sss) b1 b2 = decodeFamily10 ddd.toNat sss.toNat := by
  rw [decode, field_opByte_family, field_opByte_middle, field_opByte_low]
  rfl

theorem decode_family11 :
    decode (opByte 0b11 ddd sss) b1 b2 = decodeFamily11 ddd.toNat sss.toNat b1 (wordOf b2 b1) := by
  rw [decode, field_opByte_family, field_opByte_middle, field_opByte_low]
  rfl

end

/-! ## Operand fields (R72) -/

@[simp] theorem selOf_selNum (o : Sel) : selOf (selNum o).toNat = o := by
  cases o with
  | reg r => cases r <;> rfl
  | m => rfl

theorem eq_m_of_selNum {o : Sel} (h : (selNum o).toNat = 6) : o = .m := by
  rw [← selOf_selNum o, h]
  rfl

/-- The slot of `MOV M,M` is HLT's; every other pair of selectors is a MOV. -/
theorem decodeFamily01_selNum {dst src : Sel} (h : (Instr.mov dst src).wellFormed = true) :
    decodeFamily01 (selNum dst).toNat (selNum src).toNat = .mov dst src := by
  have hslot : ¬((selNum dst).toNat = 6 ∧ (selNum src).toNat = 6) := by
    rintro ⟨hd, hs⟩
    rw [eq_m_of_selNum hd, eq_m_of_selNum hs] at h
    cases h
  rw [decodeFamily01, if_neg hslot, selOf_selNum, selOf_selNum]

/-! ## Decoding what was encoded (R76) -/

theorem encode_length (i : Instr) : (encode i).length = i.length := by cases i <;> rfl

theorem encode_ne_nil (i : Instr) : encode i ≠ [] := by cases i <;> exact List.cons_ne_nil _ _

/-- The first three bytes of an encoding and whatever follows it decode to the instruction. -/
theorem decode_encode_append {i : Instr} (rest : List Byte) (h : i.wellFormed = true) :
    decode ((encode i ++ rest).getD 0 0) ((encode i ++ rest).getD 1 0) ((encode i ++ rest).getD 2 0) = i := by
  cases i <;> simp only [encode, withWord, List.cons_append, List.getD_cons_zero, List.getD_cons_succ, decode_family00,
    decode_family01, decode_family10, decode_family11]
  case mov dst src => exact decodeFamily01_selNum h
  -- a selector is the middle field or the low one
  case inr o | dcr o | add o | adc o | sub o | sbb o | ana o | xra o | ora o | cmp o => exact congrArg _ (selOf_selNum o)
  case mvi o d => exact congrArg (Instr.mvi · d) (selOf_selNum o)
  -- a pair and the bit `q` are the middle field
  case dad p | inx p | dcx p | stax p | ldax p => cases p <;> rfl
  case lxi p w => cases p <;> exact congrArg _ (wordOf_hi8_lo8 w)
  -- two operand bytes, low byte first
  case shld w | lhld w | sta w | lda w | jnz w | jz w | jnc w | jc w | jpo w | jpe w | jp w | jm w | cnz w | cz w | cnc w | cc w
    | cpo w | cpe w | cp w | cm w | jmp w | call w => exact congrArg _ (wordOf_hi8_lo8 w)
  case rst n => exact congrArg Instr.rst ((BitVec.ofNat_toNat 3 n).trans (BitVec.setWidth_eq n))
  -- what is left has no operand but a whole byte
  all_goals rfl

/-- What `decodeBytes` accepts: bytes that hold the whole of the instruction they begin with. -/
theorem decodeBytes_eq_ok_iff {bytes rest : List Byte} {i : Instr} : decodeBytes bytes = .ok (i, rest) ↔
    bytes ≠ [] ∧ decode (bytes.getD 0 0) (bytes.getD 1 0) (bytes.getD 2 0) = i ∧ i.length ≤ bytes.length ∧
      bytes.drop i.length = rest := by
  simp only [decodeBytes]
  constructor
  · intro h
    split at h
    · cases h
    · split at h
      · cases h
      · cases h
        exact ⟨‹_›, rfl, Nat.le_of_not_lt ‹_›, rfl⟩
  · rintro ⟨hne, rfl, hlen, rfl⟩
    rw [if_neg hne, if_neg (Nat.not_lt.mpr hlen)]

/-- Settles O1: the bytes decode to the instruction, and it is as long as its encoding, so what follows the encoding is left. -/
theorem decodeOfEncodeIsTheInstruction : Obligations.DecodeOfEncodeIsTheInstruction := by
  unfold Obligations.DecodeOfEncodeIsTheInstruction
  intro i rest h
  refine decodeBytes_eq_ok_iff.mpr ⟨?_, decode_encode_append rest h, ?_, ?_⟩
  · exact List.append_ne_nil_of_left_ne_nil (encode_ne_nil i) rest
  · rw [List.length_append, encode_length]
    exact Nat.le_add_right _ _
  · exact List.drop_left' (encode_length i)

/-- Settles O3: a finite table, which the decoder computes. -/
theorem wordsOfEachFamilyDecode : Obligations.WordsOfEachFamilyDecode := by
  unfold Obligations.WordsOfEachFamilyDecode
  decide

/-- Settles O4: the instruction decoded from the three bytes is the one fetched at PC; PC moves before the effect and the count
comes after it by the definition of a running step. -/
theorem stepRunsTheDecodedInstruction : Obligations.StepRunsTheDecodedInstruction := by
  unfold Obligations.StepRunsTheDecodedInstruction
  intro s i rest hrun _ hdec
  obtain ⟨-, hdecode, -, -⟩ := decodeBytes_eq_ok_iff.mp hdec
  have hfetch : fetchInstr s = i := hdecode
  rw [step_running hrun, hfetch]
  rfl

end Sys2Proof.Machine
end

section
/-! SUPPORT. The flag routines and the ALU (spec/40_flags_alu.md): what each routine and each path of the ALU leaves, said once in
the words of Safety.lean; the statements about the sixteen ALU instructions and about DAA after an addition then follow. -/

namespace Sys2Proof.Machine

/-! ## S, Z and P of a result (R100, R123) -/

section
variable {v f : Byte} (r n : Int)

theorem getLsbD_seven_iff (v : Byte) : v.getLsbD 7 = true ↔ 128 ≤ v.toNat := by
  rw [← BitVec.msb_eq_getLsbD_last, BitVec.msb_eq_decide]
  simp

theorem parityEven_iff (v : Byte) : parityEven v = true ↔ ((List.range 8).countP fun i => v.getLsbD i) % 2 = 0 := by
  rw [parityEven, beq_iff_eq, ← List.countP_eq_length_filter]

/-- S, Z and P are those of `v` when their bits are the ones that R100 computes from `v`. -/
theorem FlagsOfResult.of_flags (hs : flagS f = v.getLsbD 7) (hz : flagZ f = (v == 0)) (hp : flagP f = parityEven v) :
    FlagsOfResult v f := by
  rw [FlagsOfResult, hs, hz, hp]
  exact ⟨getLsbD_seven_iff v, beq_iff_eq, parityEven_iff v⟩

theorem flagsOfResult_setAllFlags (f : Byte) : FlagsOfResult (low8 r) (setAllFlags r n f) := .of_flags (by simp) (by simp) (by simp)

theorem flagsOfResult_setFlagsNotC (f : Byte) : FlagsOfResult (low8 r) (setFlagsNotC r n f) :=
  .of_flags (by simp) (by simp) (by simp)

theorem flagsOfResult_setMostFlags (f : Byte) : FlagsOfResult (low8 r) (setMostFlags r f) := .of_flags (by simp) (by simp) (by simp)

theorem FlagsOfResult.invertAC (flip : Bool) (h : FlagsOfResult v f) : FlagsOfResult v (invertAC flip f) := by
  simpa [FlagsOfResult] using h

/-- The same of an unbounded result, in the words of R100. -/
theorem flagsOfResult_low8_iff {r : Int} : FlagsOfResult (low8 r) f ↔
    (flagS f = true ↔ 128 ≤ r % 256) ∧ (flagZ f = true ↔ r % 256 = 0) ∧
      (flagP f = true ↔ ((List.range 8).countP fun i => (r % 256).toNat.testBit i) % 2 = 0) := by
  have hr := low8_toNat r
  have hs : 128 ≤ (low8 r).toNat ↔ 128 ≤ r % 256 := by omega
  have hz : low8 r = 0 ↔ r % 256 = 0 := by
    rw [← hr, Int.natCast_eq_zero]
    exact BitVec.toNat_inj.symm
  rw [FlagsOfResult, hs, hz, ← hr]
  rfl

theorem outside_iff_not (x bound : Int) : outside x bound = true ↔ ¬(0 ≤ x ∧ x < bound) := by
  rw [outside_iff]
  omega

end

/-- Settles O22: the routines share the writing of S, Z and P and differ in AC and C; INR and DCR are outside the table of the
instructions that write Carry. -/
theorem flagRoutinesAsStated : Obligations.FlagRoutinesAsStated := by
  unfold Obligations.FlagRoutinesAsStated
  refine ⟨fun r n f => ⟨?_, ?_, ?_, ?_, ?_, ?_, ?_⟩, ?_⟩
  · intro g hg
    have hboth : FlagsOfResult (low8 r) g ∧ SameReserved f g := by
      obtain rfl | rfl | rfl := hg
      · exact ⟨flagsOfResult_setAllFlags r n f, sameReserved_setAllFlags r n f⟩
      · exact ⟨flagsOfResult_setFlagsNotC r n f, sameReserved_setFlagsNotC r n f⟩
      · exact ⟨flagsOfResult_setMostFlags r f, sameReserved_setMostFlags r f⟩
    obtain ⟨hszp, hres⟩ := hboth
    obtain ⟨hs, hz, hp⟩ := flagsOfResult_low8_iff.mp hszp
    exact ⟨hs, hz, hp, hres⟩
  · rw [flagAC_setAllFlags]; exact outside_iff_not n 16
  · rw [flagC_setAllFlags]; exact outside_iff_not r 256
  · rw [flagAC_setFlagsNotC]; exact outside_iff_not n 16
  · exact flagC_setFlagsNotC r n f
  · exact flagAC_setMostFlags r f
  · rw [flagC_setMostFlags]; exact outside_iff_not r 256
  · rintro s t o (he | he) <;> exact exec_flagC_of_not_writesC he rfl

/-! ## What the ALU writes -/

section
variable (s : State)

/-- Writing F writes nothing else. -/
theorem onlyRegsAndF_setF (f : Byte) : OnlyRegsAndF [] s (s.setF f) :=
  ⟨fun r _ => by simp, by simp, by simp, by simp [SameHalt], fun x => by simp, by simp [SameRest]⟩

/-- Writing F and then one register writes nothing else. -/
theorem onlyRegsAndF_setF_setReg (f : Byte) (r : Reg) (v : Byte) : OnlyRegsAndF [r] s ((s.setF f).setReg r v) :=
  ⟨fun q hq => by simp [List.ne_of_not_mem_cons hq], by simp, by simp, by simp [SameHalt], fun x => by simp, by simp [SameRest]⟩

/-- An operand other than A reads as before when only A and F are written. -/
theorem OnlyRegsAndF.opnd_eq {s t : State} (h : OnlyRegsAndF [.a] s t) {o : Sel} (ho : o ≠ .reg .a) : opnd o t = opnd o s := by
  obtain ⟨hregs, -, -, -, hmem, -⟩ := h
  cases o with
  | reg r => exact hregs r (by simpa using ho)
  | m =>
    have hhl : t.hl = s.hl := congrArg₂ wordOf (hregs .h (by decide)) (hregs .l (by decide))
    rw [opnd_m_eq, opnd_m_eq, hhl, hmem]

theorem bit_eq_toNat (c : Bool) : bit c = (c.toNat : Int) := by cases c <;> rfl

theorem toNat_and_0x0F (v : Byte) : (v &&& 0x0F).toNat = v.toNat % 16 := Nat.and_two_pow_sub_one_eq_mod v.toNat 4

theorem nibble_eq_mod (v : Byte) : nibble v = ((v.toNat % 16 : Nat) : Int) := by rw [nibble, toNat_and_0x0F]

/-! ## Addition (R104) -/

/-- The add path leaves the sum and its flags. -/
theorem aluAdd_added (v : Byte) (cin : Bool) : Added v cin s (aluAdd v cin s) := by
  have ha : (aluAdd v cin s).a = low8 ((s.a.toNat : Int) + v.toNat + bit cin) := by simp [aluAdd]
  have hf : (aluAdd v cin s).f =
      setAllFlags ((s.a.toNat : Int) + v.toNat + bit cin) (nibble s.a + nibble v + bit cin) s.f := by simp [aluAdd]
  rw [Added, ha, hf]
  refine ⟨?_, flagsOfResult_setAllFlags _ _ _, ?_, ?_, sameReserved_setAllFlags _ _ _, onlyRegsAndF_setF_setReg _ _ _ _⟩
  · have hsum := low8_toNat ((s.a.toNat : Int) + v.toNat + bit cin)
    rw [bit_eq_toNat] at hsum ⊢
    omega
  · rw [flagC_setAllFlags, outside_iff, bit_eq_toNat]
    omega
  · rw [flagAC_setAllFlags, outside_iff, nibble_eq_mod, nibble_eq_mod, bit_eq_toNat]
    omega

end

/-- A and Carry together are the whole sum. -/
theorem Added.sum_eq {s t : State} {v : Byte} {cin : Bool} (h : Added v cin s t) :
    t.a.toNat + 256 * (flagC t.f).toNat = s.a.toNat + v.toNat + cin.toNat := by
  obtain ⟨ha, -, hc, -⟩ := h
  have hcin := Bool.toNat_le cin
  rw [← Bool.toNat_eq_one] at hc
  have hbit := Bool.toNat_le (flagC t.f)
  omega

/-- Settles O23: the four instructions are the add path, with their own operand and carry-in. -/
theorem additionsAddToA : Obligations.AdditionsAddToA := by
  unfold Obligations.AdditionsAddToA
  intro s o v
  refine ⟨?add, ?adc, ?adi, ?aci⟩
  case add | adc | adi | aci => exact ⟨_, rfl, aluAdd_added s _ _⟩

/-! ## Subtraction and comparison (R105) -/

section
variable (s : State)

/-- The subtract path leaves the flags of the difference; Auxiliary-Carry is the inverted nibble test (decision D6). -/
theorem aluCompare_borrowFlags (v : Byte) (cin : Bool) :
    BorrowFlags v cin (low8 (difference v cin s)) s (aluCompare v cin s) := by
  have hd : difference v cin s = (s.a.toNat : Int) - v.toNat - cin.toNat := by rw [difference, bit_eq_toNat]
  have hv := v.isLt
  have hc := Bool.toNat_le cin
  have hf : (aluCompare v cin s).f =
      invertAC acSubInvert (setAllFlags (difference v cin s) (nibble s.a - nibble v - bit cin) s.f) := rfl
  rw [BorrowFlags, hf]
  refine ⟨?_, (flagsOfResult_setAllFlags _ _ _).invertAC _, ?_, ?_, sameReserved_invertAC _ (sameReserved_setAllFlags _ _ _)⟩
  · have hdiff := low8_toNat (difference v cin s)
    omega
  · rw [flagC_invertAC, flagC_setAllFlags, outside_iff, hd]
    omega
  · rw [flagAC_invertAC, flagAC_setAllFlags, acSubInvert, Bool.xor_true, Bool.not_eq_true', ← Bool.not_eq_true, outside_iff,
      nibble_eq_mod, nibble_eq_mod, bit_eq_toNat]
    omega

theorem aluCompare_compared (v : Byte) : Compared v s (aluCompare v false s) :=
  ⟨⟨_, aluCompare_borrowFlags s v false⟩, onlyRegsAndF_setF s _⟩

/-- SUB and SBB leave the flags of the comparison, and the difference in A. -/
theorem aluSub_subtracted (v : Byte) (cin : Bool) : Subtracted v cin s (aluSub v cin s) := by
  have ha : (aluSub v cin s).a = low8 (difference v cin s) := by simp [aluSub]
  refine ⟨?_, onlyRegsAndF_setF_setReg _ _ _ _⟩
  rw [ha]
  exact aluCompare_borrowFlags s v cin

end

section
variable {v : Byte} {s t u : State}

/-- After a comparison Zero says that the operands are equal. -/
theorem Compared.flagZ_iff (h : Compared v s t) : flagZ t.f = true ↔ s.a = v := by
  obtain ⟨⟨d, hd, ⟨-, hz, -⟩, -, -, -⟩, -⟩ := h
  rw [hz, ← BitVec.toNat_inj, ← BitVec.toNat_inj, hd, Bool.toNat_false, show (0 : Byte).toNat = 0 from rfl]
  have hv := v.isLt
  have ha := s.a.isLt
  omega

/-- After a comparison Carry says that A is less. -/
theorem Compared.flagC_iff (h : Compared v s t) : flagC t.f = true ↔ s.a.toNat < v.toNat := by
  obtain ⟨⟨d, -, -, hc, -, -⟩, -⟩ := h
  exact hc

/-- Subtracting what was added gives the accumulator back. -/
theorem Subtracted.a_of_added (hadd : Added v false s t) (hsub : Subtracted v false t u) : u.a = s.a := by
  obtain ⟨hsum, -⟩ := hadd
  obtain ⟨⟨hdiff, -⟩, -⟩ := hsub
  rw [Bool.toNat_false] at hsum hdiff
  have hv := v.isLt
  have ha := s.a.isLt
  exact BitVec.eq_of_toNat_eq (by omega)

end

/-- Settles O24: the four instructions are the subtract path, with their own operand and borrow-in. -/
theorem subtractionsSubtractFromA : Obligations.SubtractionsSubtractFromA := by
  unfold Obligations.SubtractionsSubtractFromA
  intro s o v
  refine ⟨?sub, ?sbb, ?sui, ?sbi⟩
  case sub | sbb | sui | sbi => exact ⟨_, rfl, aluSub_subtracted s _ _⟩

/-- Settles O25: both instructions are the comparison, whose Zero and Carry say how A and the operand lie. -/
theorem comparesSetFlagsOnly : Obligations.ComparesSetFlagsOnly := by
  unfold Obligations.ComparesSetFlagsOnly
  intro s o v
  have hcmp := aluCompare_compared s (opnd o s)
  have hcpi := aluCompare_compared s v
  exact ⟨⟨_, rfl, hcmp, hcmp.flagZ_iff, hcmp.flagC_iff⟩, _, rfl, hcpi, hcpi.flagZ_iff, hcpi.flagC_iff⟩

/-- Settles O27: S, Z and P are those of the result in each routine; the operand of SUB is still the one that was added, because the
addition writes only A and F. -/
theorem subAfterAddRestoresA : Obligations.SubAfterAddRestoresA := by
  unfold Obligations.SubAfterAddRestoresA
  refine ⟨fun r n f => ?_, fun s t u v hadd hsub => ?_, fun s t u o ho hadd hsub => ?_⟩
  · exact ⟨flagsOfResult_setAllFlags r n f, flagsOfResult_setFlagsNotC r n f, flagsOfResult_setMostFlags r f⟩
  · obtain rfl : aluAdd v false s = t := Host.Outcome.next.inj hadd
    obtain rfl : aluSub v false _ = u := Host.Outcome.next.inj hsub
    exact (aluSub_subtracted _ v false).a_of_added (aluAdd_added s v false)
  · obtain rfl : aluAdd (opnd o s) false s = t := Host.Outcome.next.inj hadd
    obtain rfl : aluSub (opnd o _) false _ = u := Host.Outcome.next.inj hsub
    have hadded := aluAdd_added s (opnd o s) false
    have hopnd : opnd o (aluAdd (opnd o s) false s) = opnd o s := (onlyRegsAndF_setF_setReg s _ .a _).opnd_eq ho
    rw [hopnd]
    exact (aluSub_subtracted _ (opnd o s) false).a_of_added hadded

/-! ## The bitwise operations (R102, R110 to R112) -/

section
variable (s : State)

/-- A byte is inside the two-sided test, so Carry is cleared. -/
@[simp] theorem outside_byte (v : Byte) : outside v.toNat 256 = false := by
  have := v.isLt
  rw [← Bool.not_eq_true, outside_iff]
  omega

theorem aluMost_bitwise (r : Byte) : Bitwise r s (aluMost r s) := by
  have hf : (aluMost r s).f = setMostFlags r.toNat s.f := by simp [aluMost]
  have hres := flagsOfResult_setMostFlags r.toNat s.f
  rw [low8_toNat_self] at hres
  rw [Bitwise, hf]
  exact ⟨by simp [aluMost], hres, by simp, sameReserved_setMostFlags _ _, onlyRegsAndF_setF_setReg _ _ _ _⟩

theorem aluMost_flagAC (r : Byte) : flagAC (aluMost r s).f = flagAC s.f := by simp [aluMost]

theorem aluXor_bitwise (v : Byte) : Bitwise (s.a ^^^ v) s (aluXor v s) := by
  have hf : (aluXor v s).f = setAllFlags (s.a ^^^ v).toNat 0 s.f := by simp [aluXor]
  have hres := flagsOfResult_setAllFlags (s.a ^^^ v).toNat 0 s.f
  rw [low8_toNat_self] at hres
  rw [Bitwise, hf]
  exact ⟨by simp [aluXor], hres, by rw [flagC_setAllFlags, outside_byte], sameReserved_setAllFlags _ _ _,
    onlyRegsAndF_setF_setReg _ _ _ _⟩

/-- XOR clears Auxiliary-Carry: its nibble partial is the constant 0 (R111). -/
theorem aluXor_flagAC (v : Byte) : flagAC (aluXor v s).f = false := by simp [aluXor, outside]

end

/-- Settles O26: AND and OR are one path, which keeps AC, and XOR is the other, which clears it. -/
theorem bitwiseOperationsOnA : Obligations.BitwiseOperationsOnA := by
  unfold Obligations.BitwiseOperationsOnA
  intro s o v
  refine ⟨?ana, ?ora, ?xra, ?ani, ?ori, ?xri⟩
  case ana | ora | ani | ori => exact ⟨_, rfl, aluMost_bitwise s _, aluMost_flagAC s _⟩
  case xra | xri => exact ⟨_, rfl, aluXor_bitwise s _, aluXor_flagAC s _⟩

/-! ## DAA after an addition (R104, R169) -/

section
variable {s t : State}

theorem daaLow_eq (s : State) : daaLow s = if 9 < s.a.toNat % 16 ∨ flagAC s.f = true then 6 else 0 := by
  rw [daaLow, toNat_and_0x0F]

theorem exec_daa_a_flagC (h : exec .daa s = .next t) : t.a.toNat = daaSecond s % 256 ∧
    (flagC t.f = true ↔ 256 ≤ daaFirst s ∨ 256 ≤ daaSecond s ∨ flagC s.f = true) := by
  obtain rfl := Host.Outcome.next.inj h
  simp [or_assoc]

/-- The first adjustment of a sum of packed decimals, `q` the sum of the tens and `p` that of the units: 6 is added when the units
exceed 9, whether the low nibble shows it or Auxiliary-Carry, which carries a ten and leaves the units' digit. -/
theorem daaFirst_of_digits {q p : Nat} (hp : p ≤ 18) (hsum : s.a.toNat + 256 * (flagC s.f).toNat = 16 * q + p)
    (hac : flagAC s.f = true ↔ 16 ≤ p) : daaFirst s + 256 * (flagC s.f).toNat = 16 * (q + p / 10) + p % 10 := by
  have hunits : 9 < s.a.toNat % 16 ∨ flagAC s.f = true ↔ 10 ≤ p := by
    rw [hac]
    omega
  rw [daaFirst, daaLow_eq, if_congr hunits rfl rfl]
  split <;> omega

/-- The second adjustment, `m` the tens and `r` the units' digit after the first: 0x60 is added when the tens exceed 9, whether the
high nibble shows it, the first adjustment's carry or Carry. -/
theorem execDaa_of_digits {m r : Nat} (hm : m ≤ 19) (hr : r ≤ 9) (hfirst : daaFirst s + 256 * (flagC s.f).toNat = 16 * m + r)
    (h : exec .daa s = .next t) : t.a.toNat = m % 10 * 16 + r ∧ (flagC t.f = true ↔ 10 ≤ m) := by
  obtain ⟨ha, hc⟩ := exec_daa_a_flagC h
  rw [← Bool.toNat_eq_one (b := flagC s.f)] at hc
  have hbit := Bool.toNat_le (flagC s.f)
  have htens : daaFirst s ≥ 256 ∨ daaFirst s % 256 / 16 > 9 ∨ flagC s.f = true ↔ 10 ≤ m := by
    rw [← Bool.toNat_eq_one]
    omega
  rw [ha, hc, daaSecond, daaHigh, if_congr htens rfl rfl]
  split <;> omega

end

/-- The units of a byte of packed decimal. -/
theorem packed_mod_sixteen (n : Nat) : (n / 10 * 16 + n % 10) % 16 = n % 10 := by omega

/-- The tens of a sum: those of both numbers, and the carry out of the units. -/
theorem tens_add (x y : Nat) : x / 10 + y / 10 + (x % 10 + y % 10) / 10 = (x + y) / 10 := by omega

/-- Settles O39: the addition leaves the sum of the tens and that of the units in A, Carry and Auxiliary-Carry, the first adjustment
of DAA makes a digit of the units, and the second makes one of the tens. -/
theorem daaAfterAddAddsDecimal : Obligations.DaaAfterAddAddsDecimal := by
  unfold Obligations.DaaAfterAddAddsDecimal
  intro s t u v x y hx hy hsx hvy hadd hdaa
  obtain rfl : aluAdd v false s = t := Host.Outcome.next.inj hadd
  have hadded := aluAdd_added s v false
  have hsum : (aluAdd v false s).a.toNat + 256 * (flagC (aluAdd v false s).f).toNat =
      16 * (x / 10 + y / 10) + (x % 10 + y % 10) := by
    rw [hadded.sum_eq, hsx, hvy, Bool.toNat_false]
    ring
  have hac : flagAC (aluAdd v false s).f = true ↔ 16 ≤ x % 10 + y % 10 := by
    obtain ⟨-, -, -, haux, -⟩ := hadded
    rwa [hsx, hvy, packed_mod_sixteen, packed_mod_sixteen] at haux
  have hfirst := daaFirst_of_digits (by omega) hsum hac
  rw [tens_add, ← Nat.add_mod] at hfirst
  obtain ⟨ha, hc⟩ := execDaa_of_digits (by omega) (by omega) hfirst hdaa
  have htens : (x + y) % 100 / 10 = (x + y) / 10 % 10 := Nat.mod_mul_right_div_self (x + y) 10 10
  rw [ha, hc, htens]
  exact ⟨rfl, Nat.le_div_iff_mul_le (by decide)⟩

end Sys2Proof.Machine
end

section
/-! SUPPORT. Operand selectors and MOV (spec/41_family01_mov_hlt.md R140 to R142): a selector's write is the write of one register,
which touches nothing else, or the store at HL; MOV is one such write. -/

namespace Sys2Proof.Machine

section
variable (s : State)

/-- Writing one register writes nothing else: it is the write of F and a register, with F as it was. -/
theorem onlyRegsAndF_setReg (r : Reg) (v : Byte) : OnlyRegsAndF [r] s (s.setReg r v) := onlyRegsAndF_setF_setReg s s.f r v

/-- A write through a register selector puts the byte in that register and keeps F and the rest (R140). -/
theorem setOpnd_reg_written (r : Reg) (v : Byte) :
    (setOpnd (.reg r) v s).reg r = v ∧ (setOpnd (.reg r) v s).f = s.f ∧ OnlyRegsAndF [r] s (setOpnd (.reg r) v s) :=
  ⟨by rw [setOpnd_reg_eq, State.setReg_reg, if_pos rfl], setOpnd_f s (.reg r) v, onlyRegsAndF_setReg s r v⟩

/-- MOV writes its destination with the byte its source reads, and nothing more (R142). -/
theorem exec_mov (dst src : Sel) : exec (.mov dst src) s = .next (setOpnd dst (opnd src s) s) := rfl

end

/-- Settles O19: a selector is a register or M, and M is the byte at HL, read as a load and written as a store. -/
theorem selectorReadsAndWritesItsOperand : Obligations.SelectorReadsAndWritesItsOperand := by
  unfold Obligations.SelectorReadsAndWritesItsOperand
  intro s v
  exact ⟨opnd_reg_eq s, opnd_m_eq s, fun r => setOpnd_reg_written s r v, setOpnd_m_stored s v⟩

/-- Settles O20: MOV is the write of its destination, and what that write leaves is known for a register and for M. -/
theorem movCopiesTheOperand : Obligations.MovCopiesTheOperand := by
  unfold Obligations.MovCopiesTheOperand
  intro s src
  refine ⟨fun r => ?reg, ?m⟩
  case reg => exact ⟨_, exec_mov s (.reg r) src, setOpnd_reg_written s r (opnd src s)⟩
  case m => exact ⟨_, exec_mov s .m src, setOpnd_m_stored s (opnd src s)⟩

end Sys2Proof.Machine
end

section
/-! SUPPORT. Family 00 (spec/42_family00.md R150 to R172): the byte-chained 16-bit arithmetic is addition mod 65536, a rotate moves
each bit by one place, and each instruction is one write of a pair, an operand, A and F, or memory, whose effect is known. -/

namespace Sys2Proof.Machine

/-! ## NOP (R151) -/

theorem decodeFamily00_eq_nop {ddd sss : Nat} {d8 : Byte} {d16 : Word} (h : decodeFamily00 ddd sss d8 d16 = .nop) :
    ddd = 0 ∧ sss = 0 := by
  unfold decodeFamily00 at h
  split at h
  case h_1 =>
    split at h
    case h_1 => exact ⟨rfl, rfl⟩
    all_goals cases h
  case h_2 | h_3 | h_4 | h_8 => split at h <;> cases h
  case h_5 | h_6 | h_7 => cases h

theorem decodeFamily01_ne_nop (ddd sss : Nat) : decodeFamily01 ddd sss ≠ .nop := by
  unfold decodeFamily01
  split <;> nofun

theorem decodeFamily10_ne_nop (ooo sss : Nat) : decodeFamily10 ooo sss ≠ .nop := by
  unfold decodeFamily10
  split <;> nofun

theorem decodeFamily11_ne_nop (ddd sss : Nat) (d8 : Byte) (a16 : Word) : decodeFamily11 ddd sss d8 a16 ≠ .nop := by
  unfold decodeFamily11
  split
  case h_8 => nofun
  all_goals split <;> nofun

theorem eq_zero_of_fields {b : Byte} (hfam : field b 6 2 = 0) (hmid : field b 3 3 = 0) (hlow : field b 0 3 = 0) : b = 0 := by
  have hb := b.isLt
  simp only [field, BitVec.extractLsb'_toNat, Nat.shiftRight_eq_div_pow] at hfam hmid hlow
  rw [← BitVec.toNat_inj, show (0 : Byte).toNat = 0 from rfl]
  omega

theorem decode_zero (b1 b2 : Byte) : decode 0x00 b1 b2 = .nop := decode_family00 0 0 b1 b2

/-- Only family 00 holds NOP, and there only with both other fields 0. -/
theorem eq_zero_of_decode_eq_nop {b b1 b2 : Byte} (h : decode b b1 b2 = .nop) : b = 0x00 := by
  unfold decode at h
  split at h
  case h_1 hfam =>
    obtain ⟨hmid, hlow⟩ := decodeFamily00_eq_nop h
    exact eq_zero_of_fields hfam hmid hlow
  case h_2 => exact absurd h (decodeFamily01_ne_nop _ _)
  case h_3 => exact absurd h (decodeFamily10_ne_nop _ _)
  case h_4 => exact absurd h (decodeFamily11_ne_nop _ _ _ _)

/-- Settles O28: the byte 0 decodes to NOP and no other does, so a step over it moves PC and counts only. -/
theorem nopOnlyAdvances : Obligations.NopOnlyAdvances := by
  unfold Obligations.NopOnlyAdvances
  refine ⟨fun s => rfl, fun s hrun hbyte => ?_, fun b b1 b2 => eq_zero_of_decode_eq_nop⟩
  have hfetch : fetchInstr s = .nop := by rw [fetchInstr, hbyte, decode_zero]
  rw [step_running hrun, hfetch]
  rfl

/-! ## The pairs (R150, R152, R153, R160, R161) -/

/-- Settles O29: LXI is one write of the pair. -/
theorem lxiLoadsThePair : Obligations.LxiLoadsThePair := by
  unfold Obligations.LxiLoadsThePair
  intro s p w
  exact ⟨_, rfl, setRp_pairSet s p w, setRp_f s p w⟩

/-- Counting up with a carry from the low byte into the high one is adding 1. -/
theorem incPair_eq (w : Word) : incPair w = w + 1 := by
  have hw := w.isLt
  apply BitVec.eq_of_toNat_eq
  rw [incPair, wordOf_toNat, BitVec.toNat_ofNat, BitVec.toNat_ofNat, lo8_toNat, hi8_toNat, BitVec.toNat_add,
    show (1 : Word).toNat = 1 from rfl]
  split <;> omega

/-- Counting down with a borrow from the high byte into the low one is subtracting 1. -/
theorem decPair_eq (w : Word) : decPair w = w - 1 := by
  have hw := w.isLt
  have hlo := lo8_toNat w
  have hhi := hi8_toNat w
  have hlow := low8_toNat (((lo8 w).toNat : Int) - 1)
  apply BitVec.eq_of_toNat_eq
  rw [decPair, wordOf_toNat, BitVec.toNat_sub, show (1 : Word).toNat = 1 from rfl]
  split
  · have hhigh := low8_toNat ((hi8 w).toNat - 1)
    omega
  · have hhigh := low8_toNat ((hi8 w).toNat - 0)
    omega

/-- Settles O31: INX and DCX are one write of the pair, with the pair plus or minus 1. -/
theorem inxAndDcxCountThePair : Obligations.InxAndDcxCountThePair := by
  unfold Obligations.InxAndDcxCountThePair
  intro s p
  rw [← incPair_eq, ← decPair_eq]
  exact ⟨⟨_, rfl, setRp_pairSet s p _, setRp_f s p _⟩, _, rfl, setRp_pairSet s p _, setRp_f s p _⟩

/-- The two chained sums of DAD together are the whole sum. -/
theorem highSum_lowSum_eq_add (x y : Word) : highSum x y * 256 + lowSum x y % 256 = x.toNat + y.toNat := by
  simp only [highSum, lowSum, lo8_toNat, hi8_toNat]
  split <;> omega

theorem wordOf_sums_eq_add (x y : Word) : wordOf (BitVec.ofNat 8 (highSum x y)) (BitVec.ofNat 8 (lowSum x y)) = x + y := by
  apply BitVec.eq_of_toNat_eq
  rw [wordOf_toNat, BitVec.toNat_add, BitVec.toNat_ofNat, BitVec.toNat_ofNat, ← highSum_lowSum_eq_add]
  omega

theorem highSum_carry_iff (x y : Word) : 256 ≤ highSum x y ↔ 65536 ≤ x.toNat + y.toNat := by
  have hsum := highSum_lowSum_eq_add x y
  omega

theorem onlyCarry_putC (f : Byte) (c : Bool) : OnlyCarry f (putC f c) := fun i hi => by rw [putC_bit, if_neg hi]

/-- A pair's write after a write of F leaves what it leaves alone. -/
theorem PairSet.of_setF {p : Pair} {w : Word} {g : Byte} {s t : State} (h : PairSet p w (s.setF g) t) : PairSet p w s t := by
  obtain ⟨hpair, hregs, hrest⟩ := h
  exact ⟨hpair, fun r hr => (hregs r hr).trans (State.setF_reg s g r), hrest⟩

theorem exec_dad (s : State) (p : Pair) : exec (.dad p) s =
    .next (setRp .hl (s.hl + rp p s) (s.setF (putC s.f (decide (256 ≤ highSum s.hl (rp p s)))))) := by
  rw [← wordOf_sums_eq_add]
  rfl

/-- Settles O30: DAD is a write of Carry and then of HL; the high sum overflows exactly when the 16-bit sum does. -/
theorem dadAddsToHl : Obligations.DadAddsToHl := by
  unfold Obligations.DadAddsToHl
  intro s p
  refine ⟨_, exec_dad s p, (setRp_pairSet _ .hl _).of_setF, ?sp, ?other, ?carry⟩
  case sp => exact State.setHl_sp _ _
  case other =>
    rw [setRp_f]
    exact onlyCarry_putC _ _
  case carry =>
    rw [setRp_f, State.setF_f, flagC_putC, decide_eq_true_iff, highSum_carry_iff]

/-! ## Stores and loads (R154 to R159) -/

/-- Settles O32: each is one store of A. -/
theorem staxAndStaStoreA : Obligations.StaxAndStaStoreA := by
  unfold Obligations.StaxAndStaStoreA
  intro s a16
  exact ⟨⟨_, rfl, memWrite_stored s s.bc s.a⟩, ⟨_, rfl, memWrite_stored s s.de s.a⟩, _, rfl, memWrite_stored s a16 s.a⟩

/-- Settles O33: each is one write of A, with the byte read. -/
theorem ldaxAndLdaLoadA : Obligations.LdaxAndLdaLoadA := by
  unfold Obligations.LdaxAndLdaLoadA
  intro s a16
  have load : ∀ v, (s.setReg .a v).a = v ∧ (s.setReg .a v).f = s.f ∧ OnlyRegsAndF [.a] s (s.setReg .a v) :=
    setOpnd_reg_written s .a
  exact ⟨⟨_, rfl, load _⟩, ⟨_, rfl, load _⟩, _, rfl, load _⟩

theorem onlyRegsAndF_setHl (s : State) (w : Word) : OnlyRegsAndF [.h, .l] s (s.setHl w) := by
  obtain ⟨-, hregs, hsp, hrest⟩ := setRp_pairSet s .hl w
  exact ⟨hregs, hsp nofun, hrest⟩

/-- A word stored where neither byte is read-only is read back. -/
theorem memRead16_memWrite16_of_le {s : State} {a : Word} (w : Word) (hlo : s.cfg.romBoundary ≤ a.toNat)
    (hhi : s.cfg.romBoundary ≤ (a + 1).toNat) : memRead16 (memWrite16 a w s) a = w := by
  have hnext : a + 1 ≠ a := by bv_omega
  have hhi' : (memWrite a (lo8 w) s).cfg.romBoundary ≤ (a + 1).toNat := by rwa [memWrite_cfg]
  rw [memRead16, memWrite16, memRead_memWrite_of_le _ hhi', memRead_memWrite_of_le _ hhi', if_pos rfl, if_neg hnext,
    memRead_memWrite_of_le _ hlo, if_pos rfl, wordOf_hi8_lo8]

/-- Settles O34: SHLD is a 16-bit store of HL and LHLD a write of HL with the word read, which is the one stored. -/
theorem shldAndLhldMoveHl : Obligations.ShldAndLhldMoveHl := by
  unfold Obligations.ShldAndLhldMoveHl
  intro s a16
  refine ⟨⟨_, rfl, memWrite16_stored s a16 s.hl⟩, ⟨_, rfl, ?l, ?h, ?f, onlyRegsAndF_setHl s _⟩, ?roundTrip⟩
  case l => rw [State.setHl_l, memRead16, lo8_wordOf]
  case h => rw [State.setHl_h, memRead16, hi8_wordOf]
  case f => exact State.setHl_f s _
  case roundTrip =>
    intro t u w hlo hhi hshld hlhld
    obtain rfl : memWrite16 a16 s.hl s = t := Host.Outcome.next.inj hshld
    obtain rfl : State.setHl _ (memRead16 _ a16) = u := Host.Outcome.next.inj hlhld
    rw [State.setHl_hl]
    have hread : memRead16 ((memWrite16 a16 s.hl s).setHl w) a16 = memRead16 (memWrite16 a16 s.hl s) a16 := by
      rw [memRead16, memRead_setHl, memRead_setHl, memRead16]
    rw [hread, memRead16_memWrite16_of_le s.hl hlo hhi]

/-! ## INR, DCR, MVI (R162 to R164) -/

theorem low8_toNat_add_one (v : Byte) : low8 ((v.toNat : Int) + 1) = v + 1 := by
  have h := low8_toNat ((v.toNat : Int) + 1)
  bv_omega

theorem low8_toNat_sub_one (v : Byte) : low8 ((v.toNat : Int) - 1) = v - 1 := by
  have h := low8_toNat ((v.toNat : Int) - 1)
  bv_omega

/-- What a write of F and then of an operand, computed by `op` from what it was, leaves: the register, or a store made with the flags
already written. -/
theorem setOpnd_setF_written (s : State) (o : Sel) (op : Byte → Byte) (g : Byte) :
    (∀ r, o = .reg r → (setOpnd o (op (opnd o s)) (s.setF g)).reg r = op (s.reg r) ∧
      OnlyRegsAndF [r] s (setOpnd o (op (opnd o s)) (s.setF g))) ∧
    (o = .m → StoredByte s.hl (op (memRead s s.hl)) { s with f := (setOpnd o (op (opnd o s)) (s.setF g)).f }
      (setOpnd o (op (opnd o s)) (s.setF g))) := by
  refine ⟨?reg, ?m⟩
  case reg =>
    rintro r rfl
    exact ⟨(setOpnd_reg_written _ r _).1, onlyRegsAndF_setF_setReg s g r _⟩
  case m =>
    rintro rfl
    rw [setOpnd_f]
    exact setOpnd_m_stored (s.setF g) _

theorem exec_inr (s : State) (o : Sel) : exec (.inr o) s =
    .next (setOpnd o (opnd o s + 1) (s.setF (setFlagsNotC ((opnd o s).toNat + 1) (nibble (opnd o s) + 1) s.f))) := by
  rw [← low8_toNat_add_one]
  rfl

theorem exec_dcr (s : State) (o : Sel) : exec (.dcr o) s =
    .next (setOpnd o (opnd o s - 1)
      (s.setF (invertAC acDcrInvert (setFlagsNotC ((opnd o s).toNat - 1) (nibble (opnd o s) - 1) s.f)))) := by
  rw [← low8_toNat_sub_one]
  rfl

/-- Settles O35: INR is a write of F by the routine that keeps Carry, and then of the operand. -/
theorem inrAddsOne : Obligations.InrAddsOne := by
  unfold Obligations.InrAddsOne
  intro s o
  refine ⟨_, exec_inr s o, ?szp, ?ac, ?c, ?reserved, setOpnd_setF_written s o (· + 1) _⟩
  all_goals rw [setOpnd_f, State.setF_f]
  case szp =>
    rw [← low8_toNat_add_one]
    exact flagsOfResult_setFlagsNotC _ _ _
  case ac =>
    rw [flagAC_setFlagsNotC, outside_iff, nibble_eq_mod]
    omega
  case c => exact flagC_setFlagsNotC _ _ _
  case reserved => exact sameReserved_setFlagsNotC _ _ _

/-- Settles O36: DCR is the same with the flags of the difference, whose Auxiliary-Carry is not inverted (decision D7). -/
theorem dcrSubtractsOne : Obligations.DcrSubtractsOne := by
  unfold Obligations.DcrSubtractsOne
  intro s o
  refine ⟨_, exec_dcr s o, ?szp, ?ac, ?c, ?reserved, setOpnd_setF_written s o (· - 1) _⟩
  all_goals rw [setOpnd_f, State.setF_f]
  case szp =>
    rw [← low8_toNat_sub_one]
    exact (flagsOfResult_setFlagsNotC _ _ _).invertAC _
  case ac =>
    rw [flagAC_invertAC, flagAC_setFlagsNotC, acDcrInvert, Bool.xor_false, outside_iff, nibble_eq_mod]
    omega
  case c => rw [flagC_invertAC, flagC_setFlagsNotC]
  case reserved => exact sameReserved_invertAC _ (sameReserved_setFlagsNotC _ _ _)

/-- Settles O21: MVI is one write of its operand. -/
theorem mviStoresTheByte : Obligations.MviStoresTheByte := by
  unfold Obligations.MviStoresTheByte
  intro s v
  exact ⟨fun r => ⟨_, rfl, setOpnd_reg_written s r v⟩, _, rfl, setOpnd_m_stored s v⟩

/-! ## The rotates (R165 to R168) -/

theorem bitAt_bit (c : Bool) {i : Nat} (j : Nat) (hi : i < 8) : (bitAt c i).getLsbD j = (decide (j = i) && c) := by
  cases c with
  | false => simp [bitAt]
  | true =>
    have hput := getLsbD_putBit 0 (j := j) true hi
    simpa [putBit, bitAt] using hput

/-- A shift to the left with `c` put in at the bottom. -/
theorem shiftLeft_bitAt_bit (a : Byte) (c : Bool) {i : Nat} (hi : i < 8) :
    ((a <<< 1) ||| bitAt c 0).getLsbD i = if i = 0 then c else a.getLsbD (i - 1) := by
  rw [BitVec.getLsbD_or, bitAt_bit c i (by decide), BitVec.getLsbD_shiftLeft]
  cases i <;> simp [hi]

/-- A shift to the right with `c` put in at the top. -/
theorem shiftRight_bitAt_bit (a : Byte) (c : Bool) (i : Nat) :
    ((a >>> 1) ||| bitAt c 7).getLsbD i = if i = 7 then c else a.getLsbD (i + 1) := by
  rw [BitVec.getLsbD_or, bitAt_bit c i (by decide), BitVec.getLsbD_ushiftRight, Nat.add_comm]
  by_cases h : i = 7 <;> simp [h]

/-- Writing A and Carry is what a rotate may do. -/
theorem setAC_rotated (s : State) (v : Byte) (c : Bool) :
    Rotated s (setAC v c s) ∧ flagC (setAC v c s).f = c ∧ (setAC v c s).a = v := by
  have hf : (setAC v c s).f = putC s.f c := State.setReg_f _ _ _
  refine ⟨⟨?_, onlyRegsAndF_setF_setReg _ _ _ _⟩, ?_, rfl⟩
  · rw [hf]
    exact onlyCarry_putC _ _
  · rw [hf, flagC_putC]

/-- A and Carry after a shift to the left with `c` put in at the bottom; bit 7 goes to Carry. -/
def rotateLeft (c : Bool) (s : State) : State := setAC ((s.a <<< 1) ||| bitAt c 0) (s.a.getLsbD 7) s

/-- A and Carry after a shift to the right with `c` put in at the top; bit 0 goes to Carry. -/
def rotateRight (c : Bool) (s : State) : State := setAC ((s.a >>> 1) ||| bitAt c 7) (s.a.getLsbD 0) s

section
variable (s : State)

theorem exec_rlc : exec .rlc s = .next (rotateLeft (s.a.getLsbD 7) s) := rfl
theorem exec_rrc : exec .rrc s = .next (rotateRight (s.a.getLsbD 0) s) := rfl
theorem exec_ral : exec .ral s = .next (rotateLeft (flagC s.f) s) := rfl
theorem exec_rar : exec .rar s = .next (rotateRight (flagC s.f) s) := rfl

theorem rotateLeft_rotated (c : Bool) : Rotated s (rotateLeft c s) ∧ flagC (rotateLeft c s).f = s.a.getLsbD 7 ∧
    ∀ i, i < 8 → (rotateLeft c s).a.getLsbD i = if i = 0 then c else s.a.getLsbD (i - 1) := by
  obtain ⟨hrot, hc, ha⟩ := setAC_rotated s ((s.a <<< 1) ||| bitAt c 0) (s.a.getLsbD 7)
  exact ⟨hrot, hc, fun i hi => by rw [rotateLeft, ha, shiftLeft_bitAt_bit _ _ hi]⟩

theorem rotateRight_rotated (c : Bool) : Rotated s (rotateRight c s) ∧ flagC (rotateRight c s).f = s.a.getLsbD 0 ∧
    ∀ i, i < 8 → (rotateRight c s).a.getLsbD i = if i = 7 then c else s.a.getLsbD (i + 1) := by
  obtain ⟨hrot, hc, ha⟩ := setAC_rotated s ((s.a >>> 1) ||| bitAt c 7) (s.a.getLsbD 0)
  exact ⟨hrot, hc, fun i _ => by rw [rotateRight, ha, shiftRight_bitAt_bit]⟩

end

/-- Settles O37: each rotate is a shift by one place with a bit put in at the free end, which RLC and RRC take from the other end of A
and RAL and RAR from Carry. -/
theorem rotatesMoveOneBit : Obligations.RotatesMoveOneBit := by
  unfold Obligations.RotatesMoveOneBit
  intro s
  refine ⟨?rlc, ?rrc, ?ral, ?rar⟩
  case rlc =>
    obtain ⟨hrot, hc, hbits⟩ := rotateLeft_rotated s (s.a.getLsbD 7)
    refine ⟨_, exec_rlc s, hrot, hc, fun i hi => ?_⟩
    rw [hbits i hi]
    split <;> congr 1 <;> omega
  case rrc =>
    obtain ⟨hrot, hc, hbits⟩ := rotateRight_rotated s (s.a.getLsbD 0)
    refine ⟨_, exec_rrc s, hrot, hc, fun i hi => ?_⟩
    rw [hbits i hi]
    split <;> congr 1 <;> omega
  case ral => exact ⟨_, exec_ral s, rotateLeft_rotated s (flagC s.f)⟩
  case rar => exact ⟨_, exec_rar s, rotateRight_rotated s (flagC s.f)⟩

/-! ## DAA (R169) -/

/-- S, Z and P stay those of the result when Carry and Auxiliary-Carry are written after them. -/
theorem flagsOfResult_putAC_putC_setSZP (r : Int) (f : Byte) (c ac : Bool) :
    FlagsOfResult (low8 r) (putAC (putC (setSZP r f) c) ac) := .of_flags (by simp) (by simp) (by simp)

/-- Settles O38: the two adjustments are those of the model; F is written by the routine for S, Z and P, then in Carry and in
Auxiliary-Carry, and A last. -/
theorem daaAdjustsA : Obligations.DaaAdjustsA := by
  unfold Obligations.DaaAdjustsA
  intro s x y
  have hx : x = daaFirst s := by rw [daaFirst, daaLow_eq]
  have hy : y = daaSecond s := by rw [daaSecond, daaHigh, ← hx]
  obtain ⟨ha, hc⟩ := exec_daa_a_flagC (s := s) rfl
  rw [hx, hy, ← daaLow_eq]
  refine ⟨_, rfl, ha, hc, ?szp, ?ac, ?reserved, onlyRegsAndF_setF_setReg _ _ _ _⟩
  all_goals rw [State.setReg_f, State.setF_f]
  case szp =>
    rw [State.setReg_a, if_pos rfl, ← low8_ofNat]
    exact flagsOfResult_putAC_putC_setSZP _ _ _ _
  case ac => rw [flagAC_putAC, decide_eq_true_iff, toNat_and_0x0F]
  case reserved => simp [SameReserved]

/-! ## CMA, STC, CMC (R170 to R172) -/

/-- Settles O40: CMA is one write of A, STC and CMC are one write of Carry. -/
theorem cmaStcCmcComplementAndSet : Obligations.CmaStcCmcComplementAndSet := by
  unfold Obligations.CmaStcCmcComplementAndSet
  intro s
  have carry : ∀ c, flagC (s.setF (putC s.f c)).f = c ∧ OnlyCarry s.f (s.setF (putC s.f c)).f ∧
      OnlyRegsAndF [] s (s.setF (putC s.f c)) :=
    fun c => ⟨flagC_putC s.f c, onlyCarry_putC s.f c, onlyRegsAndF_setF s _⟩
  rw [← BitVec.xor_allOnes]
  exact ⟨⟨_, rfl, setOpnd_reg_written s .a _⟩, ⟨_, rfl, carry true⟩, _, rfl, carry _⟩

end Sys2Proof.Machine
end

section
/-! SUPPORT. Family 11 (spec/43_family11_control_stack.md R190 to R207): a pop reads back what a push stored where both stack bytes can
be written; a conditional transfer is its transfer or nothing; the shadow stack follows calls and returns. -/

namespace Sys2Proof.Machine

/-! ## A pop after a push (R190, R191) -/

section
variable {s t u : State} {a : Word}

theorem SameHalt.trans (hst : SameHalt s t) (htu : SameHalt t u) : SameHalt s u :=
  ⟨htu.1.trans hst.1, htu.2.trans hst.2⟩

/-- Whether a stack byte can be written depends on the configuration only. -/
theorem StackWritable.of_cfg (h : StackWritable s a) (hcfg : t.cfg = s.cfg) : StackWritable t a := by
  unfold StackWritable StackFaultAt
  rwa [hcfg]

theorem stackStore_of_writable (h : StackWritable s a) (v : Byte) : stackStore a v s = memWrite a v s := by
  obtain ⟨hvalid, -⟩ := h
  rw [← stackFaults_iff] at hvalid
  exact if_neg hvalid

/-- A 16-bit store with neither byte refused halts nothing. -/
theorem memWrite16_sameHalt_of_le (w : Word) (hlo : s.cfg.romBoundary ≤ a.toNat) (hhi : s.cfg.romBoundary ≤ (a + 1).toNat) :
    SameHalt s (memWrite16 a w s) :=
  (memWrite_sameHalt_of_le _ hlo).trans (memWrite_sameHalt_of_le _ (by rwa [memWrite_cfg]))

/-- A pop whose two loads do not fault gives the word in memory at SP and halts nothing. -/
theorem pop16_of_not_fault (hlo : ¬StackFaultAt s s.sp) (hhi : ¬StackFaultAt s (s.sp + 1)) :
    (pop16 s).1 = memRead16 s s.sp ∧ SameHalt s (pop16 s).2 := by
  obtain ⟨-, hlow, hhigh, hkept, -, -⟩ := pop16_popped s
  refine ⟨?_, (hkept hlo hhi).1⟩
  rw [memRead16, ← hlow hlo, ← hhigh hhi, wordOf_hi8_lo8]

theorem sp_sub_two_add_one (s : State) : s.sp - 2 + 1 = s.sp - 1 := by bv_omega

section
variable (w : Word) (hlo : StackWritable s (s.sp - 2)) (hhi : StackWritable s (s.sp - 1))
include hlo hhi

/-- A push is a 16-bit store at the new SP. -/
theorem push16_of_writable : push16 w s = memWrite16 (s.sp - 2) w (s.setSp (s.sp - 2)) := by
  have hlow : StackWritable (s.setSp (s.sp - 2)) (s.sp - 2) := hlo.of_cfg rfl
  have hhigh : StackWritable (memWrite (s.sp - 2) (lo8 w) (s.setSp (s.sp - 2))) (s.sp - 1) := hhi.of_cfg (memWrite_cfg _ _ _)
  rw [push16, memWrite16, sp_sub_two_add_one, stackStore_of_writable hlow, stackStore_of_writable hhigh]

/-- A push puts its word in memory at the new SP and halts nothing. -/
theorem push16_lands : memRead16 (push16 w s) (s.sp - 2) = w ∧ SameHalt s (push16 w s) := by
  rw [push16_of_writable w hlo hhi]
  rw [← sp_sub_two_add_one] at hhi
  exact ⟨memRead16_memWrite16_of_le w hlo.2 hhi.2, memWrite16_sameHalt_of_le w hlo.2 hhi.2⟩

/-- A pop from any state with the memory, SP and configuration that a push left gives back the word pushed and SP, and halts
nothing. -/
theorem pop16_after_push16 (hmem : t.mem = (push16 w s).mem) (hsp : t.sp = (push16 w s).sp) (hcfg : t.cfg = (push16 w s).cfg) :
    (pop16 t).1 = w ∧ (pop16 t).2.sp = s.sp ∧ SameHalt t (pop16 t).2 := by
  rw [push16_sp] at hsp
  rw [push16_cfg] at hcfg
  have hlow : ¬StackFaultAt t t.sp := hsp ▸ (hlo.of_cfg hcfg).1
  have hhigh : ¬StackFaultAt t (t.sp + 1) := by
    rw [hsp, sp_sub_two_add_one]
    exact (hhi.of_cfg hcfg).1
  obtain ⟨hword, hhalt⟩ := pop16_of_not_fault hlow hhigh
  refine ⟨?word, ?sp, hhalt⟩
  case word =>
    rw [hword, hsp, memRead16, memRead_of_mem hmem, memRead_of_mem hmem]
    exact (push16_lands w hlo hhi).1
  case sp => rw [pop16_sp, hsp, BitVec.sub_add_cancel]

end

end

/-- Settles O41: the pop loads the word that the push stored, and neither of them halts. -/
theorem popReturnsThePushedWord : Obligations.PopReturnsThePushedWord := by
  unfold Obligations.PopReturnsThePushedWord
  intro s w hlo hhi
  obtain ⟨hword, hsp, hhalt⟩ := pop16_after_push16 w hlo hhi rfl rfl rfl
  exact ⟨hword, hsp, (push16_lands w hlo hhi).2.trans hhalt⟩

/-! ## PUSH and POP (R201 to R204) -/

/-- POP PSW loads back an F that has its fixed bits. -/
theorem loadF_of_fixedBits {f : Byte} (h : fixedBits f) : loadF f = f := by
  obtain ⟨hone, hthree, hfive⟩ := h
  refine BitVec.eq_of_getLsbD_eq fun i _ => ?_
  rw [loadF_bit]
  split
  · next hi => rw [hi, hone]
  · split
    · next hi => rcases hi with rfl | rfl <;> simp only [hthree, hfive]
    · rfl

section
variable (s : State)

theorem exec_pushPsw : exec .pushPsw s = .next (push16 (wordOf s.a s.f) s) := rfl

theorem exec_popPsw : exec .popPsw s = .next { (pop16 s).2 with a := hi8 (pop16 s).1, f := loadF (lo8 (pop16 s).1) } := rfl

end

/-- Settles O42: each is one push of the pair. -/
theorem pushStoresThePair : Obligations.PushStoresThePair := by
  unfold Obligations.PushStoresThePair
  intro s
  exact ⟨⟨_, rfl, push16_pushed s s.bc⟩, ⟨_, rfl, push16_pushed s s.de⟩, _, rfl, push16_pushed s s.hl⟩

/-- Settles O43: each is one pop, followed by a write of the pair. -/
theorem popLoadsThePair : Obligations.PopLoadsThePair := by
  unfold Obligations.PopLoadsThePair
  intro s
  exact ⟨(pop16 s).1, (pop16 s).2, pop16_popped s, rfl, rfl, rfl⟩

/-- Settles O44: PUSH PSW is a push of A and F, POP PSW a pop into them, and forcing the fixed bits keeps an F that has them. -/
theorem pswPushesAndPopsAAndF : Obligations.PswPushesAndPopsAAndF := by
  unfold Obligations.PswPushesAndPopsAAndF
  intro s
  refine ⟨⟨_, exec_pushPsw s, push16_pushed s _⟩, ⟨_, _, pop16_popped s, exec_popPsw s⟩, ?roundTrip⟩
  case roundTrip =>
    intro t u x g hfixed hlo hhi hpush hpop
    obtain rfl := Host.Outcome.next.inj ((exec_pushPsw s).symm.trans hpush)
    obtain rfl := Host.Outcome.next.inj ((exec_popPsw _).symm.trans hpop)
    obtain ⟨hword, hsp, -⟩ :=
      pop16_after_push16 (t := { push16 (wordOf s.a s.f) s with a := x, f := g }) (wordOf s.a s.f) hlo hhi rfl rfl rfl
    refine ⟨?a, ?f, hsp⟩
    case a => rw [hword, hi8_wordOf]
    case f => rw [hword, lo8_wordOf, loadF_of_fixedBits hfixed]

/-! ## Jumps and the conditions (R192, R194, R196) -/

/-- JMP as encoded: the opcode, then the address, low byte first. -/
theorem decode_jmp (w : Word) : decode 0xC3 (lo8 w) (hi8 w) = .jmp w :=
  decode_encode_append (i := .jmp w) [] rfl

/-- Settles O45: JMP is one write of PC; fetched from its own target it writes back the PC it was fetched at. -/
theorem jmpGoesToItsAddress : Obligations.JmpGoesToItsAddress := by
  unfold Obligations.JmpGoesToItsAddress
  refine ⟨fun s w => rfl, fun s hrun hop hlo hhi => ?_⟩
  have hfetch : fetchInstr s = .jmp s.pc := by rw [fetchInstr, hop, hlo, hhi, decode_jmp]
  rw [step_running hrun, hfetch]
  rfl

/-- The eight conditions by number: polarity 0 wants the flag clear, polarity 1 wants it set (R192, decision D37). -/
theorem condHolds_iff (f : Byte) :
    (condHolds 0 f = true ↔ flagZ f = false) ∧ (condHolds 1 f = true ↔ flagZ f = true) ∧
    (condHolds 2 f = true ↔ flagC f = false) ∧ (condHolds 3 f = true ↔ flagC f = true) ∧
    (condHolds 4 f = true ↔ flagP f = false) ∧ (condHolds 5 f = true ↔ flagP f = true) ∧
    (condHolds 6 f = true ↔ flagS f = false) ∧ (condHolds 7 f = true ↔ flagS f = true) := by
  obtain ⟨hnz, hz, hnc, hc, hpo, hpe, hp, hm⟩ := condHolds_table f
  simp only [hnz, hz, hnc, hc, hpo, hpe, hp, hm, Bool.not_eq_true', and_self]

/-- A transfer under a condition, when the condition numbered `ccc` is `c` and the transfer has the effect. -/
theorem conditionally_of_whenCond {s : State} {i : Instr} {ccc : BitVec 3} {c : Prop} {taken : State → State}
    {effect : State → State → Prop} (heffect : effect s (taken s)) (hexec : exec i s = .next (whenCond ccc taken s))
    (hcond : condHolds ccc s.f = true ↔ c) : Conditionally i c effect s := by
  refine ⟨fun hc => ⟨taken s, ?_, heffect⟩, fun hc => ?_⟩
  · rw [hexec, whenCond, if_pos (hcond.mpr hc)]
  · rw [hexec, whenCond, if_neg (mt hcond.mp hc)]

/-- Settles O46: each is a write of PC under its condition. -/
theorem conditionalJumps : Obligations.ConditionalJumps := by
  unfold Obligations.ConditionalJumps
  intro s w goes
  have jump {i ccc c} :=
    conditionally_of_whenCond (s := s) (i := i) (ccc := ccc) (c := c) (taken := (·.setPc w)) (effect := goes) rfl
  obtain ⟨hnz, hz, hnc, hc, hpo, hpe, hp, hm⟩ := condHolds_iff s.f
  exact ⟨jump rfl hnz, jump rfl hz, jump rfl hnc, jump rfl hc, jump rfl hpo, jump rfl hpe, jump rfl hp, jump rfl hm⟩

/-! ## Calls and returns (R193, R195, R197 to R199) -/

/-- Settles O47: each is a call under its condition. -/
theorem conditionalCalls : Obligations.ConditionalCalls := by
  unfold Obligations.ConditionalCalls
  intro s w
  have call {i ccc c} := conditionally_of_whenCond (i := i) (ccc := ccc) (c := c) (callTo_called s w)
  obtain ⟨hnz, hz, hnc, hc, hpo, hpe, hp, hm⟩ := condHolds_iff s.f
  exact ⟨call rfl hnz, call rfl hz, call rfl hnc, call rfl hc, call rfl hpo, call rfl hpe, call rfl hp, call rfl hm⟩

/-- Settles O48: each is a return under its condition. -/
theorem conditionalReturns : Obligations.ConditionalReturns := by
  unfold Obligations.ConditionalReturns
  intro s
  have ret {i ccc c} := conditionally_of_whenCond (i := i) (ccc := ccc) (c := c) (returnTo_returned s)
  obtain ⟨hnz, hz, hnc, hc, hpo, hpe, hp, hm⟩ := condHolds_iff s.f
  exact ⟨ret rfl hnz, ret rfl hz, ret rfl hnc, ret rfl hc, ret rfl hpo, ret rfl hpe, ret rfl hp, ret rfl hm⟩

section
variable {s : State}

theorem popFrame_of_nil (h : s.shadow = []) (p : Word) : popFrame p s = s := by
  unfold popFrame
  rw [h]

theorem popFrame_of_cons {fr : Frame} {rest : List Frame} (h : s.shadow = fr :: rest) (p : Word) :
    popFrame p s = if fr.sp = p then s.setShadow rest else s := by
  unfold popFrame
  rw [h]

theorem returnTo_shadow_of_nil (h : s.shadow = []) : (returnTo s).shadow = [] := by
  have hpop : (pop16 s).2.shadow = [] := (pop16_shadow s).trans h
  rw [returnTo, State.setPc_shadow, popFrame_of_nil hpop, hpop]

/-- A return takes the top frame off the shadow stack if its SP is the one returned from, else keeps every frame (R260, log 12). -/
theorem returnTo_shadow_of_cons {fr : Frame} {rest : List Frame} (h : s.shadow = fr :: rest) :
    (returnTo s).shadow = if fr.sp = s.sp then rest else s.shadow := by
  rw [returnTo, State.setPc_shadow, popFrame_of_cons ((pop16_shadow s).trans h)]
  split
  · rfl
  · exact pop16_shadow s

end

/-- Settles O49: CALL and RST are a call of their target, RET is a return. -/
theorem callRstRetTransfer : Obligations.CallRstRetTransfer := by
  unfold Obligations.CallRstRetTransfer
  intro s
  refine ⟨fun w => ⟨_, rfl, callTo_called s w, callTo_shadow s w⟩, fun n => ?rst, _, rfl, returnTo_returned s, ?shadow⟩
  case rst =>
    rw [Nat.mul_comm]
    exact ⟨_, rfl, callTo_called s _, callTo_shadow s _⟩
  case shadow =>
    split
    · next h => exact returnTo_shadow_of_cons h
    · next h => exact returnTo_shadow_of_nil h

/-- Settles O50: the return pops the address that the call pushed. -/
theorem retAfterCallReturns : Obligations.RetAfterCallReturns := by
  unfold Obligations.RetAfterCallReturns
  intro s t u w hlo hhi hcall hret
  obtain rfl : callTo w s = t := Host.Outcome.next.inj hcall
  obtain rfl : returnTo (callTo w s) = u := Host.Outcome.next.inj hret
  obtain ⟨hword, hsp, -⟩ := pop16_after_push16 (t := callTo w s) s.pc hlo hhi rfl rfl rfl
  refine ⟨callTo_pc s w, ?pc, ?sp⟩
  case pc => rw [returnTo_pc, hword]
  case sp => rw [returnTo_sp, ← pop16_sp, hsp]

/-! ## The moves and exchanges of HL (R200, R205 to R207) -/

section
variable (s : State) (hi lo : Byte)

theorem setHl_wordOf : s.setHl (wordOf hi lo) = { s with h := hi, l := lo } := by
  rw [State.setHl, hi8_wordOf, lo8_wordOf]
  rfl

theorem setDe_wordOf : s.setDe (wordOf hi lo) = { s with d := hi, e := lo } := by
  rw [State.setDe, hi8_wordOf, lo8_wordOf]
  rfl

theorem exec_xchg : exec .xchg s = .next ((s.setHl (wordOf s.d s.e)).setDe (wordOf s.h s.l)) := rfl

end

/-- Settles O51: PCHL and SPHL are one write of HL, XCHG is a write of HL and one of DE. -/
theorem pchlSphlXchgMoveHl : Obligations.PchlSphlXchgMoveHl := by
  unfold Obligations.PchlSphlXchgMoveHl
  intro s
  refine ⟨rfl, rfl, ?_⟩
  rw [exec_xchg, setHl_wordOf, setDe_wordOf]

/-- Settles O52: the word at SP is read first; after the 16-bit store, refused or not, HL is loaded with it. -/
theorem xthlExchangesTheStackTop : Obligations.XthlExchangesTheStackTop := by
  unfold Obligations.XthlExchangesTheStackTop
  intro s
  exact ⟨_, memWrite16_stored s s.sp s.hl, congrArg Host.Outcome.next (setHl_wordOf _ _ _)⟩

end Sys2Proof.Machine
end

section
/-! SUPPORT. Halting and the run loop (spec/60_exceptions.md R240 to R246, R261, R262): which causes each instruction may halt the core
with, that nothing else stops a step, and where the run loop ends. -/

namespace Sys2Proof.Machine

/-! ## The causes of a halt (R240, R246) -/

/-- The causes with which instruction `i`, executed in `s`, may halt the core. -/
def MayRaise (i : Instr) (s : State) : HaltCause → Prop
  | .none => False
  | .hltInstruction => i = .hlt
  | .unimplementedOpcode _ _ => isUnmatched i = true
  | .stackFault a => usesStack i = true ∧ StackFaultAt s a
  | .readOnlyViolation a _ => storesMemory i = true ∧ a.toNat < s.cfg.romBoundary
  | .endOfInput p => i = .inPort p

/-- `t` has the configuration of `s`, and its halt too unless the core halted with a cause that `i` may raise. -/
def Raises (i : Instr) (s t : State) : Prop :=
  t.cfg = s.cfg ∧ (SameHalt s t ∨ ∃ x, MayRaise i s x ∧ Halts x s t)

section
variable {i : Instr} {s t u : State}

theorem MayRaise.ne_none {x : HaltCause} (hx : MayRaise i s x) : x ≠ .none := by
  rintro rfl
  exact hx

theorem Raises.refl : Raises i s s := ⟨rfl, .inl ⟨rfl, rfl⟩⟩

/-- A change of anything but the configuration and the halt. -/
theorem Raises.keep (h : Raises i s t) (hcfg : u.cfg = t.cfg) (hhalted : u.halted = t.halted)
    (hcause : u.haltCause = t.haltCause) : Raises i s u := by
  unfold Raises SameHalt Halts
  rw [hcfg, hhalted, hcause]
  exact h

theorem Raises.setF (h : Raises i s t) (v : Byte) : Raises i s (t.setF v) := h.keep rfl rfl rfl

theorem Raises.setSp (h : Raises i s t) (w : Word) : Raises i s (t.setSp w) := h.keep rfl rfl rfl

/-- A further raise of an admitted cause: it counts if it is the first, and the first one stands if it is not (R241). -/
theorem Raises.raise {x : HaltCause} (h : Raises i s t) (hx : MayRaise i s x) : Raises i s (raise x t) := by
  obtain ⟨hcfg, ⟨-, hcause⟩ | ⟨y, hy, -, hcause⟩⟩ := h
  · exact ⟨hcfg, .inr ⟨x, hx, raise_halts_of x hcause⟩⟩
  · have hrecorded : t.haltCause ≠ .none := by
      rw [hcause]
      split
      · exact hy.ne_none
      · assumption
    have hstands : (Machine.raise x t).haltCause = t.haltCause := by rw [(raise_halts t x).2, if_neg hrecorded]
    exact ⟨hcfg, .inr ⟨y, hy, rfl, hstands.trans hcause⟩⟩

/-! ## The shared operations -/

theorem Raises.memWrite (h : Raises i s t) (hi : storesMemory i = true) (a : Word) (v : Byte) :
    Raises i s (memWrite a v t) := by
  by_cases ha : a.toNat < t.cfg.romBoundary
  · rw [Machine.memWrite, if_pos ha]
    exact h.raise ⟨hi, h.1 ▸ ha⟩
  · obtain ⟨hhalted, hcause⟩ := memWrite_sameHalt_of_le v (Nat.le_of_not_lt ha)
    exact h.keep (memWrite_cfg _ _ _) hhalted hcause

theorem Raises.memWrite16 (h : Raises i s t) (hi : storesMemory i = true) (a w : Word) : Raises i s (memWrite16 a w t) :=
  (h.memWrite hi _ _).memWrite hi _ _

theorem Raises.setOpnd (h : Raises i s t) {o : Sel} (hi : o = .m → storesMemory i = true) (v : Byte) :
    Raises i s (setOpnd o v t) := by
  cases o with
  | reg r => exact h.keep (State.setReg_cfg _ _ _) (State.setReg_halted _ _ _) (State.setReg_haltCause _ _ _)
  | m => exact h.memWrite (hi rfl) _ _

/-- The raise of a stack byte access outside the valid region (R243). -/
theorem Raises.raise_stackFault (h : Raises i s t) (hi : usesStack i = true) {a : Word} (ha : stackFaults t a = true) :
    Raises i s (Machine.raise (.stackFault a) t) :=
  h.raise ⟨hi, (stackFaults_iff s a).mp ((stackFaults_of_cfg h.1 a).symm.trans ha)⟩

theorem Raises.stackStore (h : Raises i s t) (hu : usesStack i = true) (hi : storesMemory i = true) (a : Word) (v : Byte) :
    Raises i s (stackStore a v t) := by
  unfold Machine.stackStore
  split
  · exact h.raise_stackFault hu ‹_›
  · exact h.memWrite hi a v

theorem Raises.stackLoad (h : Raises i s t) (hu : usesStack i = true) (a : Word) : Raises i s (stackLoad a t).2 := by
  unfold Machine.stackLoad
  split
  · exact (h.keep (u := t.setFreeCount _) rfl rfl rfl).raise_stackFault hu ‹_›
  · exact h

theorem Raises.push16 (h : Raises i s t) (hu : usesStack i = true) (hi : storesMemory i = true) (w : Word) :
    Raises i s (push16 w t) :=
  ((h.setSp (t.sp - 2)).stackStore hu hi _ _).stackStore hu hi _ _

theorem Raises.pop16 (h : Raises i s t) (hu : usesStack i = true) : Raises i s (pop16 t).2 :=
  (((h.stackLoad hu t.sp).setSp (t.sp + 1)).stackLoad hu (t.sp + 1)).setSp _

theorem Raises.callTo (h : Raises i s t) (hu : usesStack i = true) (hi : storesMemory i = true) (w : Word) :
    Raises i s (callTo w t) := (h.push16 hu hi t.pc).keep rfl rfl rfl

theorem Raises.returnTo (h : Raises i s t) (hu : usesStack i = true) : Raises i s (returnTo t) :=
  (h.pop16 hu).keep (popFrame_cfg _ _) (popFrame_halted _ _) (popFrame_haltCause _ _)

/-! ## Every instruction -/

/-- Every instruction keeps the configuration and halts the core with none but its own causes. -/
theorem exec_raises (he : exec i s = .next t) : Raises i s t := by
  have e : next? (exec i s) = some t := by rw [he]; rfl
  clear he
  have h : ∀ {i : Instr}, Raises i s s := Raises.refl
  cases i <;> simp only [exec] at e <;> obtain rfl : _ = t := Option.some.inj e
  case hlt => exact h.raise rfl
  case inPort p =>
    have hin : Raises (.inPort p) s (portIn p s).2 := h.keep (portIn_cfg _ _) (portIn_halted _ _) (portIn_haltCause _ _)
    unfold takeInput
    split
    · exact hin.keep rfl rfl rfl
    · exact hin.raise rfl
  -- stores outside the stack
  case stax | sta => exact h.memWrite rfl _ _
  case shld => exact h.memWrite16 rfl _ _
  case xthl => exact (h.memWrite16 rfl _ _).keep rfl rfl rfl
  case mov o _ | mvi o _ => exact h.setOpnd (by rintro rfl; rfl) _
  case inr o | dcr o => exact (h.setF _).setOpnd (by rintro rfl; rfl) _
  -- the stack
  case pushB | pushD | pushH | pushPsw => exact h.push16 rfl rfl _
  case popB | popD | popH => exact (h.pop16 rfl).keep rfl rfl rfl
  case popPsw => exact (h.pop16 rfl).keep (setPsw_cfg _ _) (setPsw_halted _ _) (setPsw_haltCause _ _)
  case call | rst => exact h.callTo rfl rfl _
  case ret => exact h.returnTo rfl
  case cnz | cz | cnc | cc | cpo | cpe | cp | cm => exact Closed.whenCond _ (h.callTo rfl rfl _) h
  case rnz | rz | rnc | rc | rpo | rpe | rp | rm => exact Closed.whenCond _ (h.returnTo rfl) h
  case jnz | jz | jnc | jc | jpo | jpe | jp | jm => exact Closed.whenCond _ (h.keep rfl rfl rfl) h
  case unmatched08 | unmatched10 | unmatched18 | unmatched20 | unmatched28 | unmatched30 | unmatched38 | unmatchedCB
    | unmatchedD9 | unmatchedDD | unmatchedED | unmatchedFD | unmatchedF3 | unmatchedFB => exact h.raise rfl
  -- what is left writes registers, flags, SP, PC or the output ports
  all_goals exact h.keep (by simp) (by simp) (by simp)

end

/-- Settles O10: a core that ran without a cause has none and runs on, or it halted with a cause of the instruction. -/
theorem eachHaltCauseHasItsInstructions : Obligations.EachHaltCauseHasItsInstructions := by
  unfold Obligations.EachHaltCauseHasItsInstructions
  intro i s t hrun hnone he
  obtain ⟨-, ⟨hhalted, hcause⟩ | ⟨x, hx, hhalted, hcause⟩⟩ := exec_raises he
  · simp only [hcause, hnone]
    exact hhalted.trans hrun
  · rw [if_pos hnone] at hcause
    simp only [hcause]
    cases x with
    | none => exact hx.elim
    | hltInstruction | unimplementedOpcode | endOfInput => exact ⟨hx, hhalted⟩
    | stackFault | readOnlyViolation =>
      obtain ⟨hi, ha⟩ := hx
      exact ⟨hi, hhalted, ha⟩

/-- Settles O11: an instruction raises a stack fault only at an address where the check is on and no range is valid. -/
theorem fullStackRegionNeverFaults : Obligations.FullStackRegionNeverFaults := by
  unfold Obligations.FullStackRegionNeverFaults
  intro s t hvalid hnone hs a hfault
  obtain ⟨hrun, u, hu, rfl⟩ := step_next hs
  have hcauses := eachHaltCauseHasItsInstructions _ (advancePc _ s) _ hrun hnone hu
  have hcause : u.haltCause = .stackFault a := hfault
  simp only [hcause] at hcauses
  obtain ⟨-, -, hon, houtside⟩ := hcauses
  obtain hoff | hall := hvalid
  · exact Bool.false_ne_true (hoff.symm.trans hon)
  · obtain ⟨r, hr, hin⟩ := hall a
    exact houtside r hr hin

/-! ## HLT and the unmatched bytes (R242, R246) -/

/-- Settles O56: HLT is a raise of its cause. -/
theorem hltHalts : Obligations.HltHalts := by
  unfold Obligations.HltHalts
  intro s
  exact ⟨_, rfl, raise_halts s _, raise_eq s _⟩

/-- The unmatched instructions and their bytes (spec/30_encoding.md R77). -/
def unmatchedTable : List (Instr × Byte) :=
  [(.unmatched08, 0x08), (.unmatched10, 0x10), (.unmatched18, 0x18), (.unmatched20, 0x20), (.unmatched28, 0x28),
    (.unmatched30, 0x30), (.unmatched38, 0x38), (.unmatchedCB, 0xCB), (.unmatchedD9, 0xD9), (.unmatchedDD, 0xDD),
    (.unmatchedED, 0xED), (.unmatchedFD, 0xFD), (.unmatchedF3, 0xF3), (.unmatchedFB, 0xFB)]

section
variable {i : Instr} {b : Byte} (h : (i, b) ∈ unmatchedTable)
include h

theorem exec_unmatched (s : State) : exec i s = .next (unimplemented b s) := by
  have hall : ∀ p ∈ unmatchedTable, exec p.1 s = .next (unimplemented p.2 s) := by
    intro p hp
    fin_cases hp <;> rfl
  exact hall _ h

theorem encode_unmatched : i.wellFormed = true ∧ encode i = [b] :=
  (by decide : ∀ p ∈ unmatchedTable, p.1.wellFormed = true ∧ encode p.1 = [p.2]) _ h

theorem fetchInstr_unmatched {s : State} (hb : memRead s s.pc = b) : fetchInstr s = i := by
  obtain ⟨hwf, henc⟩ := encode_unmatched h
  have hdec := decode_encode_append [memRead s (s.pc + 1), memRead s (s.pc + 2)] hwf
  rw [henc, ← hb] at hdec
  exact hdec

theorem advancePc_unmatched (s : State) : advancePc i s = s.setPc (s.pc + 1) := by
  have hlen : i.length = 1 := by rw [← encode_length, (encode_unmatched h).2]; rfl
  rw [advancePc, hlen]
  rfl

end

/-- Settles O57: an unmatched byte raises its cause with the address PC has just moved past. -/
theorem unmatchedBytesHalt : Obligations.UnmatchedBytesHalt := by
  unfold Obligations.UnmatchedBytesHalt
  intro s i b hmem
  have h : (i, b) ∈ unmatchedTable := hmem
  refine ⟨⟨_, exec_unmatched h s, raise_halts s _, raise_eq s _⟩, fun hrun hnone hb => ?_⟩
  have haddr : s.pc + 1 - 1 = s.pc := BitVec.add_sub_cancel _ _
  have hraise : unimplemented b (s.setPc (s.pc + 1)) =
      { s with pc := s.pc + 1, halted := true, haltCause := .unimplementedOpcode s.pc b } := by
    rw [unimplemented, State.setPc_pc, haddr, raise, State.setPc_haltCause, if_pos hnone]
    rfl
  rw [step_running hrun, fetchInstr_unmatched h hb, advancePc_unmatched h, exec_unmatched h, hraise]
  rfl

/-! ## Every step answers (R19, R22, R240, R261) -/

/-- No instruction faults or is refused: a fault of this hardware is a next state that is halted (R240). -/
theorem exec_answers (i : Instr) (s : State) : ∃ t, exec i s = .next t := by
  cases i <;> exact ⟨_, rfl⟩

/-- The counter, the configuration and the hook record are as before. -/
def KeepsCountAndConfig (s t : State) : Prop := t.icount = s.icount ∧ t.cfg = s.cfg ∧ t.hookLog = s.hookLog

theorem keepsCountAndConfig_closed (s : State) : Closed (KeepsCountAndConfig s) where
  reg _ r _ h := by cases r <;> exact h
  flags _ _ _ h := h
  sp _ _ h := h
  pc _ _ h := h
  raised _ _ _ h := h
  stored _ _ _ _ h := h
  shadow _ _ h := h
  logged _ _ _ h := h
  event _ _ h := h
  input _ _ h := h
  free _ _ h := h

/-- Settles O5: the instruction at PC answers a state with the old count, configuration and hook record, which is then counted. -/
theorem everyStepCompletesUnlessHalted : Obligations.EveryStepCompletesUnlessHalted := by
  unfold Obligations.EveryStepCompletesUnlessHalted
  refine fun s => ⟨fun hhalted => by rw [step, if_pos hhalted], fun hrun => ?_⟩
  obtain ⟨u, hu⟩ := exec_answers (fetchInstr s) (advancePc (fetchInstr s) s)
  obtain ⟨hcount, hcfg, hhooks⟩ := (keepsCountAndConfig_closed s).exec _ hu ⟨rfl, rfl, rfl⟩
  refine ⟨u.setIcount (u.icount + 1), ?_, congrArg (· + 1) hcount, hcfg, hhooks⟩
  rw [step_running hrun, hu]
  rfl

/-! ## The run loop (R262) -/

section
variable {s t : State}

theorem runLoop_halted (n : Nat) (h : s.halted = true) : runLoop n s = .next s := by
  cases n with
  | zero => rfl
  | succ n => rw [runLoop, if_pos h]

theorem runLoop_running (n : Nat) (h : s.halted = false) (hs : step (fireHooks s) = .next t) :
    runLoop (n + 1) s = runLoop n t := by
  rw [runLoop, h, hs]
  rfl

theorem State.Inv.fireHooks (h : s.Inv) : (fireHooks s).Inv := by
  rw [fireHooks_frame]
  exact { h with }

end

/-- Settles O59, by induction on the budget: a turn of the loop is one counted step, and the rest of the budget starts from there. -/
theorem runEndsHaltedOrAtTheBudget : Obligations.RunEndsHaltedOrAtTheBudget := by
  unfold Obligations.RunEndsHaltedOrAtTheBudget
  intro n
  induction n with
  | zero => exact fun s => ⟨s, rfl, le_rfl, le_rfl, .inr rfl, fun _ => rfl, rfl, id⟩
  | succ n ih =>
    intro s
    cases hrun : s.halted with
    | true => exact ⟨s, runLoop_halted _ hrun, le_rfl, Nat.le_add_right _ _, .inl hrun, fun _ => rfl, rfl, id⟩
    | false =>
      obtain ⟨u, hstep, hcount, hcfg, -⟩ := (everyStepCompletesUnlessHalted (fireHooks s)).2 (by simpa using hrun)
      obtain ⟨t, hloop, hlow, hhigh, hend, -, hcfg', hinv⟩ := ih u
      rw [fireHooks_icount] at hcount
      refine ⟨t, (runLoop_running n hrun hstep).trans hloop, by omega, by omega, hend.imp_right (by omega), nofun,
        hcfg'.trans (hcfg.trans (fireHooks_cfg s)), fun h => hinv ?_⟩
      exact stepKeepsTheInvariant _ _ h.fireHooks hstep

end Sys2Proof.Machine
end

section
/-! SUPPORT. Creation and reset (spec/70_reset_and_hazards.md R280, R281): what the host's `reset` sets and leaves alone. -/

namespace Sys2Proof.Machine

/-- A start address is taken mod 0x10000, as R281 reduces it. -/
theorem startPc_mod (n : Nat) : BitVec.ofNat 16 (n % 0x10000) = BitVec.ofNat 16 n :=
  BitVec.eq_of_toNat_eq (by simp)

/-- The whole effect of `reset(start_pc)`: four fields are set, and every other one is that of the state before. -/
theorem resetAt_frame (n : Nat) (s : State) :
    resetAt n s = { s with pc := BitVec.ofNat 16 n, f := 0x02, halted := false, haltCause := .none } := rfl

/-- Settles O58: the frame of `resetAt` with the start address reduced; the creation values are those `State.reset` is defined with. -/
theorem resetSetsPcAndFlags : Obligations.ResetSetsPcAndFlags := by
  unfold Obligations.ResetSetsPcAndFlags
  refine ⟨fun n s => ?_, rfl, rfl, rfl, rfl, rfl, rfl, rfl, rfl, rfl⟩
  rw [startPc_mod, resetAt_frame]

end Sys2Proof.Machine
end

section
/-! SUPPORT. The other direction of the encoding (spec/30_encoding.md R70, R76, R78). Any three bytes are an opcode byte of some
fields and the two bytes of some word, so for each family the instruction decoded from its fields is encoded back. -/

namespace Sys2Proof.Machine

/-! ## Every byte as fields (R71, R72) -/

/-- A byte is the opcode byte of its own fields. -/
theorem opByte_fields (b : Byte) : opByte (b.extractLsb' 6 2) (b.extractLsb' 3 3) (b.extractLsb' 0 3) = b := by
  have hhigh : b.extractLsb' 6 2 ++ b.extractLsb' 3 3 = b.extractLsb' 3 5 :=
    BitVec.extractLsb'_append_extractLsb'_eq_extractLsb' rfl
  rw [opByte, hhigh]
  exact BitVec.extractLsb'_append_extractLsb' (w := 5) (len := 3)

/-- The case split on a field of three bits. -/
theorem threeBit_cases {motive : BitVec 3 → Prop} (b000 : motive 0b000) (b001 : motive 0b001) (b010 : motive 0b010)
    (b011 : motive 0b011) (b100 : motive 0b100) (b101 : motive 0b101) (b110 : motive 0b110) (b111 : motive 0b111)
    (x : BitVec 3) : motive x := by
  have h : ∀ y : BitVec 3, y = 0 ∨ y = 1 ∨ y = 2 ∨ y = 3 ∨ y = 4 ∨ y = 5 ∨ y = 6 ∨ y = 7 := by decide
  obtain rfl | rfl | rfl | rfl | rfl | rfl | rfl | rfl := h x <;> assumption

@[simp] theorem selNum_selOf (x : BitVec 3) : selNum (selOf x.toNat) = x := by
  cases x using threeBit_cases <;> rfl

theorem toNat_eq_six_of_selOf_eq_m {x : BitVec 3} (h : selOf x.toNat = .m) : x.toNat = 6 := by
  rw [← selNum_selOf x, h]
  rfl

theorem mov_wellFormed_iff {dst src : Sel} : (Instr.mov dst src).wellFormed = true ↔ ¬(dst = .m ∧ src = .m) := by
  simp [Instr.wellFormed, imp_iff_not_or]

/-! ## Encoding what each family decodes (R75, R76) -/

/-- The hardware has the instruction, and its encoding is as many of the bytes as it is long. -/
def EncodesBack (i : Instr) (bytes : List Byte) : Prop := i.wellFormed = true ∧ encode i = bytes.take i.length

section
variable (ddd sss : BitVec 3) (w : Word)

/-- `ddd` is a selector in INR, DCR and MVI; elsewhere each pair of field values has its own instruction. -/
theorem decodeFamily00_encodesBack :
    EncodesBack (decodeFamily00 ddd.toNat sss.toNat (lo8 w) w) (withWord (opByte 0b00 ddd sss) w) := by
  cases sss using threeBit_cases
  case b100 | b101 => exact ⟨rfl, congrArg (fun o => [opByte 0b00 o _]) (selNum_selOf ddd)⟩
  case b110 => exact ⟨rfl, congrArg (fun o => [opByte 0b00 o _, lo8 w]) (selNum_selOf ddd)⟩
  all_goals cases ddd using threeBit_cases <;> exact ⟨rfl, rfl⟩

/-- The slot of `MOV M,M` is HLT's, so no MOV decoded from another slot is `MOV M,M`. -/
theorem decodeFamily01_encodesBack :
    EncodesBack (decodeFamily01 ddd.toNat sss.toNat) (withWord (opByte 0b01 ddd sss) w) := by
  by_cases hslot : ddd.toNat = 6 ∧ sss.toNat = 6
  · rw [decodeFamily01, if_pos hslot]
    obtain ⟨hd, hs⟩ := hslot
    obtain rfl : ddd = 6 := BitVec.eq_of_toNat_eq hd
    obtain rfl : sss = 6 := BitVec.eq_of_toNat_eq hs
    exact ⟨rfl, rfl⟩
  · rw [decodeFamily01, if_neg hslot]
    have hmov : ¬(selOf ddd.toNat = .m ∧ selOf sss.toNat = .m) := fun ⟨hd, hs⟩ =>
      hslot ⟨toNat_eq_six_of_selOf_eq_m hd, toNat_eq_six_of_selOf_eq_m hs⟩
    exact ⟨mov_wellFormed_iff.mpr hmov, congrArg₂ (fun d s => [opByte 0b01 d s]) (selNum_selOf ddd) (selNum_selOf sss)⟩

/-- `sss` is a selector in every operation. -/
theorem decodeFamily10_encodesBack :
    EncodesBack (decodeFamily10 ddd.toNat sss.toNat) (withWord (opByte 0b10 ddd sss) w) := by
  cases ddd using threeBit_cases <;> exact ⟨rfl, congrArg (fun o => [opByte 0b10 _ o]) (selNum_selOf sss)⟩

/-- `ddd` is the number of RST; elsewhere each pair of field values has its own instruction. -/
theorem decodeFamily11_encodesBack :
    EncodesBack (decodeFamily11 ddd.toNat sss.toNat (lo8 w) w) (withWord (opByte 0b11 ddd sss) w) := by
  cases sss using threeBit_cases
  case b111 =>
    have hn : BitVec.ofNat 3 ddd.toNat = ddd := (BitVec.ofNat_toNat 3 ddd).trans (BitVec.setWidth_eq ddd)
    exact ⟨rfl, congrArg (fun n => [opByte 0b11 n _]) hn⟩
  all_goals cases ddd using threeBit_cases <;> exact ⟨rfl, rfl⟩

/-- The four families together, on the bytes of a word. -/
theorem decode_opByte_encodesBack (fam : BitVec 2) :
    EncodesBack (decode (opByte fam ddd sss) (lo8 w) (hi8 w)) (withWord (opByte fam ddd sss) w) := by
  have hfam : ∀ f : BitVec 2, f = 0b00 ∨ f = 0b01 ∨ f = 0b10 ∨ f = 0b11 := by decide
  obtain rfl | rfl | rfl | rfl := hfam fam
  · rw [decode_family00, wordOf_hi8_lo8]
    exact decodeFamily00_encodesBack ddd sss w
  · rw [decode_family01]
    exact decodeFamily01_encodesBack ddd sss w
  · rw [decode_family10]
    exact decodeFamily10_encodesBack ddd sss w
  · rw [decode_family11, wordOf_hi8_lo8]
    exact decodeFamily11_encodesBack ddd sss w

end

/-- Settles O2: the first byte is the opcode byte of its fields, and the other two are the bytes of one word. -/
theorem encodeOfDecodeIsTheBytes : Obligations.EncodeOfDecodeIsTheBytes := by
  unfold Obligations.EncodeOfDecodeIsTheBytes
  intro b0 b1 b2
  have h := decode_opByte_encodesBack (b0.extractLsb' 3 3) (b0.extractLsb' 0 3) (wordOf b2 b1) (b0.extractLsb' 6 2)
  rwa [withWord, opByte_fields, lo8_wordOf, hi8_wordOf] at h

end Sys2Proof.Machine
end
